-- ==== Sys2Proof/Word.lean ====
section
/-! DEFINITION. The word types of the ZA2416 (00_scope.md convention 4, 01 section 1.3, 11 R184, R189). -/

namespace Sys2Proof

/-- One byte of a frame, a tag, a beat sequence or a notice sequence: 8 bits, wrapping (00 convention 4). -/
abbrev Byte := BitVec 8

/-- A value of a point: a signed 16-bit number, read with `BitVec.toInt` (01 section 1.3). -/
abbrev Value := BitVec 16

/-- A serial or an authority epoch: 16 bits, wrapping from 65535 to 0 (00 convention 4). -/
abbrev Serial := BitVec 16

/-- An arbiter time or a deadline: a 32-bit count of time units, wrapping (R189). -/
abbrev Time := BitVec 32

/-- A 32-bit word: a digest or a record sequence (R172, R150). -/
abbrev Word32 := BitVec 32

end Sys2Proof
end

