-- ==== Sys2Proof/Syntax.lean ====
section
/-! DEFINITION. The commands of the ZA2416: one constructor of `Instr` per row of spec/opcode_table.json, with the
names of lanes, links and lane sets that they carry. -/

namespace Sys2Proof

/-- The three lanes (00 section 5). -/
inductive Lane where
  | a
  | b
  | c
deriving DecidableEq, Repr

/-- One value for each lane. -/
structure PerLane (α : Type) where
  a : α
  b : α
  c : α
deriving DecidableEq, Repr

/-- A set of lanes (R184: one bit for each of A, B and C). -/
abbrev LaneSet := PerLane Bool

/-- The five links (Table 0.1). -/
inductive Link where
  | la
  | lb
  | lc
  | dl
  | ml
deriving DecidableEq, Repr

/-- A link that takes requests and sends replies: a lane link or the maintenance link (R138). -/
inductive ReqLink where
  | lane (l : Lane)
  | ml
deriving DecidableEq, Repr

/-- The framing conditions of Table 11.2. -/
inductive FramingFault where
  /-- a START is received inside a frame -/
  | startInsideFrame
  /-- a data character, END or ABANDON is received outside a frame -/
  | characterOutsideFrame
  /-- a 134th data character is received inside one frame -/
  | frameTooLong
deriving DecidableEq, Repr

/-- The commands: one constructor per row of spec/opcode_table.json. A request carries the link it arrives on, the
tag byte of its header and its payload bytes as received; the other commands name the link, lane, point, slot or
entry whose event they are. -/
inductive Instr where
  /-- PROPOSE (R18) -/
  | propose (link : ReqLink) (tag : Byte) (payload : List Byte)
  /-- JOIN (R69) -/
  | join (link : ReqLink) (tag : Byte) (payload : List Byte)
  /-- LEAVE (R84) -/
  | leave (link : ReqLink) (tag : Byte) (payload : List Byte)
  /-- BEAT (R79) -/
  | beat (link : ReqLink) (tag : Byte) (payload : List Byte)
  /-- CLAIM (R95) -/
  | claim (link : ReqLink) (tag : Byte) (payload : List Byte)
  /-- YIELD (R97) -/
  | yield (link : ReqLink) (tag : Byte) (payload : List Byte)
  /-- WITHDRAW (R98) -/
  | withdraw (link : ReqLink) (tag : Byte) (payload : List Byte)
  /-- RESTART on a lane link (R110) -/
  | restart (lane : Lane) (tag : Byte) (payload : List Byte)
  /-- RESTART on the maintenance link (R113) -/
  | maintenanceRestart (tag : Byte) (payload : List Byte)
  /-- POINT_READ (R15) -/
  | pointRead (link : ReqLink) (tag : Byte) (payload : List Byte)
  /-- POINT_CLEAR (R131) -/
  | pointClear (link : ReqLink) (tag : Byte) (payload : List Byte)
  /-- JOURNAL_READ (R156) -/
  | journalRead (link : ReqLink) (tag : Byte) (payload : List Byte)
  /-- JOURNAL_REARM (R159) -/
  | journalRearm (link : ReqLink) (tag : Byte) (payload : List Byte)
  /-- CFG_OPEN (R166) -/
  | cfgOpen (link : ReqLink) (tag : Byte) (payload : List Byte)
  /-- CFG_WRITE (R167) -/
  | cfgWrite (link : ReqLink) (tag : Byte) (payload : List Byte)
  /-- CFG_READ (R168) -/
  | cfgRead (link : ReqLink) (tag : Byte) (payload : List Byte)
  /-- CFG_COMMIT (R169) -/
  | cfgCommit (link : ReqLink) (tag : Byte) (payload : List Byte)
  /-- CFG_ABORT (R171) -/
  | cfgAbort (link : ReqLink) (tag : Byte) (payload : List Byte)
  /-- STATUS (R173) -/
  | status (link : ReqLink) (tag : Byte) (payload : List Byte)
  /-- BAD_KIND: a good frame whose kind byte is no request kind (R138) -/
  | badKind (link : ReqLink) (kind : Byte) (tag : Byte) (payload : List Byte)
  /-- ECHO on DL (R123) -/
  | echo (tag : Byte) (payload : List Byte)
  /-- DISPATCH of the head of the apply queue (R122) -/
  | dispatch
  /-- ECHO_DEADLINE of the entry of this point and tag (R126) -/
  | echoDeadline (point : Fin 64) (tag : Byte)
  /-- WINDOW_EXPIRY of the slot of this point and serial (R28) -/
  | windowExpiry (point : Fin 64) (serial : Serial)
  /-- DEPARTURE_CLOSING at this point (R35) -/
  | departureClosing (point : Fin 64)
  /-- BEAT_TIMEOUT of this lane (R82) -/
  | beatTimeout (lane : Lane)
  /-- HOLD_EXPIRY of this lane (R86) -/
  | holdExpiry (lane : Lane)
  /-- COLLECTION_DEADLINE (R112) -/
  | collectionDeadline
  /-- BACKOFF_EXPIRY (R176) -/
  | backoffExpiry (link : Link)
  /-- HANDSHAKE_EXPIRY (R177) -/
  | handshakeExpiry (link : Link)
  /-- SILENCE_TIMEOUT (R178) -/
  | silenceTimeout (link : Link)
  /-- CODE_ERROR (R178) -/
  | codeError (link : Link)
  /-- FRAMING_ERROR (R178) -/
  | framingError (link : Link) (how : FramingFault)
  /-- GRANT received (R179) -/
  | grant (link : Link)
  /-- IDLE received (R176) -/
  | idleReceived (link : Link)
  /-- ABANDON received inside a frame (R181) -/
  | abandon (link : Link)
  /-- DISCARDED_FRAME: a frame received whole, with these data characters, that is discarded (R180, R181) -/
  | discardedFrame (link : Link) (data : List Byte)
  /-- LINK_ENABLE of a lane's link (R176) -/
  | linkEnable (lane : Lane)
  /-- LINK_DISABLE of a lane's link (R176) -/
  | linkDisable (lane : Lane)
  /-- SEND_REPLY (R147, R148) -/
  | sendReply (link : ReqLink)
  /-- SEND_NOTICE (R146) -/
  | sendNotice (lane : Lane)
  /-- FRAME_SENT (R182) -/
  | frameSent (link : Link)
  /-- RESET_N_ASSERT (R189) -/
  | resetAssert
  /-- RESET_N_RELEASE with the levels of FIT_A, FIT_B and FIT_C (R189) -/
  | resetRelease (straps : LaneSet)
  /-- TIME_UNIT_TICK (R189) -/
  | timeUnitTick
  /-- START_NO_FREE_BUFFER (R178) -/
  | startNoFreeBuffer (link : Link)
deriving DecidableEq, Repr

end Sys2Proof
end

