-- ==== Sys2Proof/Decode.lean ====
section
/-! DEFINITION. The reading of table words. spec/opcode_table.json gives none of its 46 rows any bits (each row's
"fields" is empty), so no word spells a command (log 18). -/

namespace Sys2Proof

/-- The command that a word of `nbits` bits spells by the table's bits: none, since no row gives bits (log 18). -/
def decodeTableWord (_nbits _w : Nat) : Option Instr := none

end Sys2Proof
end

