-- ==== Sys2Proof/Config.lean ====
section
/-! DEFINITION. The fixed sizes and times of the part, and its one free value. -/

namespace Sys2Proof.Config

/-- Records the journal's ring holds (R152). -/
abbrev ringCapacity : Nat := 256

/-- Notices a lane's notice queue holds (R143). -/
abbrev noticeCapacity : Nat := 16

/-- Replies a link's reply queue holds (R137). -/
abbrev replyCapacity : Nat := 4

/-- Receive buffers of a link unit (11, opening list). -/
abbrev bufferCount : Nat := 4

/-- The greatest transmit credit (R178, R179). -/
abbrev creditMax : Nat := 4

/-- Entries the echo table holds (R116). -/
abbrev echoTableMax : Nat := 8

/-- Entries a PROPOSE frame may carry (R18). -/
abbrev proposeMax : Nat := 16

/-- Payload bytes of a frame (R180). -/
abbrev payloadMax : Nat := 128

/-- Data characters of a frame (R180): a 134th is a framing error (R178). -/
abbrev frameMax : Nat := 133

/-- Time units of an open restart collection: 50 ms (R110). -/
abbrev collectionUnits : Nat := 500

/-- Time units of the backoff timer: 1 ms (R176). -/
abbrev backoffUnits : Nat := 10

/-- Time units of the handshake timer: 1 ms (R177). -/
abbrev handshakeUnits : Nat := 10

/-- Time units of the silence timer: 100 µs (R178). -/
abbrev silenceUnits : Nat := 1

/-- Time units in a millisecond (R66, R122). -/
abbrev unitsPerMs : Nat := 10

/-- Time units in a step of the exclusion hold, 10 ms (R66). -/
abbrev unitsPerHoldStep : Nat := 100

/-- FREE VALUE (log 11): the index byte that a CFG_READ reply carries for the GLOBAL record, as a function of
the index byte of the request. R168 says that the request's index is not examined there, and states no value for
the reply's. -/
opaque globalIndexByte : Byte → Byte

end Sys2Proof.Config
end

