-- ==== Sys2Proof/Machine/Frames.lean ====
section
/-! DEFINITION. Kind codes (Table 11.4), the request kinds (Table 8.1), multi-byte
numbers (R184), the two check computations (R172, R180) and the frame check (R180). -/

namespace Sys2Proof.Machine

/-- The request kinds (Table 8.1). -/
inductive ReqKind where
  | propose | join | leave | beat | claim | yield | withdraw | restart | pointRead | pointClear
  | journalRead | journalRearm | cfgOpen | cfgWrite | cfgRead | cfgCommit | cfgAbort | status
deriving DecidableEq, Repr

/-- The kind code of a request (Table 11.4). -/
def ReqKind.code : ReqKind → Byte
  | .propose => 0x10
  | .join => 0x20
  | .leave => 0x21
  | .beat => 0x22
  | .claim => 0x30
  | .yield => 0x31
  | .withdraw => 0x32
  | .restart => 0x40
  | .pointRead => 0x50
  | .pointClear => 0x51
  | .journalRead => 0x60
  | .journalRearm => 0x61
  | .cfgOpen => 0x70
  | .cfgWrite => 0x71
  | .cfgRead => 0x72
  | .cfgCommit => 0x73
  | .cfgAbort => 0x74
  | .status => 0x78

/-- All the request kinds. -/
def ReqKind.all : List ReqKind :=
  [.propose, .join, .leave, .beat, .claim, .yield, .withdraw, .restart, .pointRead, .pointClear,
    .journalRead, .journalRearm, .cfgOpen, .cfgWrite, .cfgRead, .cfgCommit, .cfgAbort, .status]

/-- The request kind of a kind code; none for every other code (R138 check 1). -/
def requestKind (code : Byte) : Option ReqKind := ReqKind.all.find? fun k => k.code == code

/-- Kind code of a REPLY (Table 11.4). -/
def replyKind : Byte := 0x80

/-- Kind code of an APPLY (Table 11.4). -/
def applyKind : Byte := 0xA0

/-- Kind code of an ECHO (Table 11.4). -/
def echoKind : Byte := 0xA1

/-- A 16-bit number, most significant byte first (R184). -/
def be16 (x : BitVec 16) : List Byte := [x.extractLsb' 8 8, x.extractLsb' 0 8]

/-- A 32-bit number, most significant byte first (R184). -/
def be32 (x : BitVec 32) : List Byte :=
  [x.extractLsb' 24 8, x.extractLsb' 16 8, x.extractLsb' 8 8, x.extractLsb' 0 8]

/-- A 16-bit number read from two bytes, most significant first (R184). -/
def from16 (hi lo : Byte) : BitVec 16 := hi ++ lo

/-- A 32-bit number read from four bytes, most significant first (R184). -/
def from32 (b3 b2 b1 b0 : Byte) : BitVec 32 := b3 ++ b2 ++ b1 ++ b0

/-- `f` applied `n` times. -/
def iterate {α : Type} (f : α → α) : Nat → α → α
  | 0, x => x
  | n + 1, x => iterate f n (f x)

/-- One shift of the digest register toward its low end (R172). -/
def crc32Shift (r : BitVec 32) : BitVec 32 :=
  if r.getLsbD 0 then (r >>> 1) ^^^ 0xEDB88320 else r >>> 1

/-- One byte taken into the digest register (R172). -/
def crc32Byte (r : BitVec 32) (b : Byte) : BitVec 32 := iterate crc32Shift 8 (r ^^^ b.setWidth 32)

/-- The CRC-32 of R172: the register starts at all ones and is inverted after the last byte. -/
def crc32 (bytes : List Byte) : Word32 := ~~~ bytes.foldl crc32Byte (BitVec.allOnes 32)

/-- One shift of the check sequence register toward its high end (R180). -/
def crc16Shift (r : BitVec 16) : BitVec 16 :=
  if r.getLsbD 15 then (r <<< 1) ^^^ 0x1021 else r <<< 1

/-- One byte taken into the check sequence register (R180). -/
def crc16Byte (r : BitVec 16) (b : Byte) : BitVec 16 :=
  iterate crc16Shift 8 (r ^^^ (b.setWidth 16 <<< 8))

/-- The check sequence of a frame's header and payload (R180). -/
def crc16 (bytes : List Byte) : BitVec 16 := bytes.foldl crc16Byte 0xFFFF

/-- The data characters of a frame: header, payload and check sequence (R180). -/
def frameBytes (kind tag : Byte) (payload : List Byte) : List Byte :=
  let body := kind :: tag :: BitVec.ofNat 8 payload.length :: payload
  body ++ be16 (crc16 body)

/-- What a frame whose data characters pass the checks of R180 holds. -/
structure GoodFrame where
  kind : Byte
  tag : Byte
  payload : List Byte
deriving DecidableEq, Repr

/-- The checks made when END is received (R180): the length, then the check sequence. None where one fails. -/
def checkFrame (data : List Byte) : Option GoodFrame :=
  match data with
  | kind :: tag :: len :: rest =>
    if data.length < 5 ∨ Config.payloadMax < len.toNat ∨ len.toNat + 5 ≠ data.length then none
    else if be16 (crc16 (data.take (data.length - 2))) = data.drop (data.length - 2) then
      some ⟨kind, tag, rest.take len.toNat⟩
    else none
  | _ => none

/-- Whether an ECHO payload has the length its status calls for and a status that is DONE or REJECTED (R123,
R181): point, status, and with DONE a readback. -/
def echoWellFormed (payload : List Byte) : Bool :=
  match payload with
  | [_, st] => st == 1
  | [_, st, _, _] => st == 0
  | _ => false

/-- Whether a frame received whole on a link, with these data characters, is discarded (R180, R181): a failed
check on any link; on DL also every frame that is not a well-formed ECHO. -/
def discards (link : Link) (data : List Byte) : Bool :=
  match checkFrame data with
  | none => true
  | some f =>
    match link with
    | .dl => !(f.kind == echoKind && echoWellFormed f.payload)
    | _ => false

end Sys2Proof.Machine
end

