-- ==== Sys2Proof/Machine/Lanes.lean ====
section
/-! DEFINITION. Lanes, lane sets and the links of lanes: the plain operations over them (00 convention 6, R184). -/

namespace Sys2Proof

/-- The lanes in the order A, B, C in which lane consequences are taken (00 convention 6). -/
def Lane.all : List Lane := [.a, .b, .c]

/-- The link of a lane (Table 0.1). -/
def Lane.link : Lane → Link
  | .a => .la
  | .b => .lb
  | .c => .lc

/-- The lane of a link; none for DL and ML (Table 9.1, LINK). -/
def Link.lane? : Link → Option Lane
  | .la => some .a
  | .lb => some .b
  | .lc => some .c
  | .dl => none
  | .ml => none

/-- The links in the order LA, LB, LC, DL, ML (R173, R185). -/
def Link.all : List Link := [.la, .lb, .lc, .dl, .ml]

/-- The link a request arrives on. -/
def ReqLink.link : ReqLink → Link
  | .lane l => l.link
  | .ml => .ml

/-- The value held for a lane. -/
def PerLane.get {α : Type} (v : PerLane α) : Lane → α
  | .a => v.a
  | .b => v.b
  | .c => v.c

/-- `v` with the value for one lane replaced. -/
def PerLane.set {α : Type} (v : PerLane α) (l : Lane) (x : α) : PerLane α :=
  match l with
  | .a => { v with a := x }
  | .b => { v with b := x }
  | .c => { v with c := x }

/-- The value given for each lane by a function. -/
def PerLane.tabulate {α : Type} (f : Lane → α) : PerLane α := ⟨f .a, f .b, f .c⟩

/-- The value for each lane, changed by a function. -/
def PerLane.map {α β : Type} (f : α → β) (v : PerLane α) : PerLane β := ⟨f v.a, f v.b, f v.c⟩

/-- The empty lane set. -/
def LaneSet.empty : LaneSet := ⟨false, false, false⟩

/-- The set holding one lane. -/
def LaneSet.single (l : Lane) : LaneSet := LaneSet.empty.set l true

/-- The lanes in both sets. -/
def LaneSet.inter (x y : LaneSet) : LaneSet := PerLane.tabulate fun l => x.get l && y.get l

/-- `x` without lane `l`. -/
def LaneSet.remove (x : LaneSet) (l : Lane) : LaneSet := x.set l false

/-- `x` with lane `l`. -/
def LaneSet.insert (x : LaneSet) (l : Lane) : LaneSet := x.set l true

/-- The number of lanes in a set. -/
def LaneSet.count (x : LaneSet) : Nat := x.a.toNat + x.b.toNat + x.c.toNat

/-- Whether every lane of `x` is in `y`. -/
def LaneSet.subset (x y : LaneSet) : Bool := Lane.all.all fun l => !x.get l || y.get l

/-- Whether the set is empty. -/
def LaneSet.isEmpty (x : LaneSet) : Bool := !(x.a || x.b || x.c)

/-- The lanes of a set, in the order A, B, C. -/
def LaneSet.toList (x : LaneSet) : List Lane := Lane.all.filter fun l => x.get l

end Sys2Proof
end

