-- ==== Sys2Proof/Machine/Types.lean ====
section
/-! DEFINITION. The names and records the manual gives each block's state: enumerations (Table 11.5), configuration
records (Table 10.2, Table 1.2), vote slots, drive fields, lane entries, notices, journal records, replies and link
units. -/

namespace Sys2Proof.Machine

/-- A level of a pin. -/
inductive Level where
  | low
  | high
deriving DecidableEq, Repr

/-- One value for each of the 64 points (R1). -/
abbrev PerPoint (α : Type) := Vector α 64

/-- The states of a lane (Table 4.2). -/
inductive LaneState where
  | absent | down | probation | member | excluded
deriving DecidableEq, Repr

/-- The causes of lane state changes (Table 4.3). -/
inductive LaneCause where
  | founded | joined | probationPassed | probationFailed | noMember | miscompare | missed | selfReported
  | beatLost | left | linkLost | holdEnded | restart | fitted | unfitted | powerOn
deriving DecidableEq, Repr

/-- The modes of the part (R163). -/
inductive Mode where
  | config | operate
deriving DecidableEq, Repr

/-- The kinds of a point (R4). -/
inductive PointKind where
  | discrete | level
deriving DecidableEq, Repr

/-- The modes of a point (R7). -/
inductive PointMode where
  | majority | authority
deriving DecidableEq, Repr

/-- The fallbacks of a point (R57). -/
inductive Fallback where
  | hold | safe
deriving DecidableEq, Repr

/-- The closing causes (R30). -/
inductive CloseCause where
  | complete | expired
deriving DecidableEq, Repr

/-- The states of a vote slot: OPEN, or RIPE with the cause it carries (R10, R28). -/
inductive SlotState where
  | opened
  | ripe (cause : CloseCause)
deriving DecidableEq, Repr

/-- The outcomes of a closing (R50 to R53). -/
inductive VoteOutcome where
  | unanimous | majority | agreed | single | holderDecided | split | short | empty | noAuthority
deriving DecidableEq, Repr

/-- The lane marks (Table 3.8). -/
inductive Mark where
  | agree | dissent | neutral | missed | observerOk | observerFail
deriving DecidableEq, Repr

/-- The verdicts of a closing on a lane (R60). -/
inductive Verdict where
  | strikeMiscompare | strikeMissed | cleanVote | probationCredit | probationFailure
deriving DecidableEq, Repr

/-- The causes of a change of holder (Table 5.1). -/
inductive AuthCause where
  | claimed | yielded | succeededQueue | succeededRank | lost | restart
deriving DecidableEq, Repr

/-- The drive statuses of a point (Table 1.3). -/
inductive DriveStatus where
  | idle | queued | inFlight | faulted
deriving DecidableEq, Repr

/-- The causes of an APPLY_FAIL record (R126, R133). -/
inductive ApplyCause where
  | timeout | mismatch | rejected | cleared
deriving DecidableEq, Repr

/-- The statuses of an ECHO (R123). -/
inductive EchoStatus where
  | done | rejected
deriving DecidableEq, Repr

/-- The states of a link (Table 11.1). -/
inductive LinkState where
  | off | waking | ready | run
deriving DecidableEq, Repr

/-- The causes of a link's entry to OFF (Table 11.2, R176, R177). -/
inductive LinkCause where
  | handshake | code | silence | credit | framing | disabled
deriving DecidableEq, Repr

/-- The states of the journal (section 9.3). -/
inductive JournalState where
  | recording | postTrigger | frozen
deriving DecidableEq, Repr

/-- The kinds of a warm restart (R114). -/
inductive RestartKind where
  | laneVoted | maintenance
deriving DecidableEq, Repr

/-- The directions of a SAFE notice or record (R107, R108). -/
inductive SafeDirection where
  | entered | exited
deriving DecidableEq, Repr

/-- The item codes of INVALID_CONFIG (Table 10.4). -/
inductive ItemCode where
  | noLane | minMembers | ranks | electorateEmpty | electorateUnfitted | quorum | safeRange | discreteForm
deriving DecidableEq, Repr

/-- The health codes of a BEAT (R79). -/
inductive Health where
  | ok | degraded
deriving DecidableEq, Repr

/-- The images a CFG_READ names (R168). -/
inductive ImageName where
  | active | staging
deriving DecidableEq, Repr

/-- The frame results (Table 8.2), in table order. -/
inductive Result where
  | ok | badFrame | badKind | notPermitted | wrongMode | notMember | notFitted | alreadyJoined | digestMismatch
  | excluded | founded | probation | granted | queued | alreadyHolder | duplicate | notQueued | notHolder
  | staleEpoch | notFaulted | pending | restarted | busy | invalidConfig | noActive | badIndex | outOfRange
  | notFrozen | subjectLane
deriving DecidableEq, Repr

/-- The PROPOSE entry results (Table 8.3), in table order. -/
inductive EntryResult where
  | accepted | notMember | pointDisabled | notElector | outOfRange | stale | ahead | notOnRoll | duplicate | late
deriving DecidableEq, Repr

/-- The kinds of a journal record (Table 9.1), in table order. -/
inductive RecordKind where
  | outcome | lane | authority | applyFail | strayEcho | link | safe | restart | config | rearm
deriving DecidableEq, Repr

/-- The trigger mask (Table 9.3). -/
structure TriggerMask where
  laneExcluded : Bool
  pointFault : Bool
  noDecision : Bool
  safeEntered : Bool
  authorityLost : Bool
  restart : Bool
deriving DecidableEq, Repr

/-- The global record of a configuration image (Table 10.2). -/
structure GlobalCfg where
  fitted : LaneSet
  minMembers : Nat
  strikeLimit : Nat
  decayInterval : Nat
  probationLength : Nat
  /-- in ms -/
  beatTimeout : Nat
  /-- in steps of 10 ms -/
  exclusionHold : Nat
  /-- in ms -/
  echoTimeout : Nat
  echoRetries : Nat
  autoSuccession : Bool
  ranks : PerLane Nat
  triggers : TriggerMask
  postCount : Nat
deriving DecidableEq, Repr

/-- A point record of a configuration image (Table 1.2). -/
structure PointCfg where
  enabled : Bool
  kind : PointKind
  mode : PointMode
  electorate : LaneSet
  quorum : Nat
  tolerance : Nat
  min : Value
  max : Value
  safe : Value
  /-- in time units -/
  window : Nat
  fallback : Fallback
  notify : LaneSet
deriving DecidableEq, Repr

/-- A configuration image (R164). -/
structure Image where
  global : GlobalCfg
  points : PerPoint PointCfg
deriving DecidableEq, Repr

/-- A record of an image, as CFG_WRITE and CFG_READ name one (R167, R168). -/
inductive CfgRecord where
  | global (g : GlobalCfg)
  | point (c : PointCfg)
deriving DecidableEq, Repr

/-- A proposal of a slot (R23). -/
structure Proposal where
  lane : Lane
  value : Value
deriving DecidableEq, Repr

/-- A vote slot (R10, R23). The proposals stand in arrival order (R39). -/
structure Slot where
  serial : Serial
  roll : LaneSet
  proposals : List Proposal
  deadline : Time
  state : SlotState
deriving DecidableEq, Repr

/-- The record of a point's last closing (R10). -/
structure LastClosing where
  serial : Serial
  cause : CloseCause
  outcome : VoteOutcome
  decided : Option Value
  withheld : Bool
  time : Time
deriving DecidableEq, Repr

/-- The vote part of a point (R10): next serial N, slot list (oldest first), last closing. -/
structure VotePart where
  next : Serial
  slots : List Slot
  last : Option LastClosing
deriving DecidableEq, Repr

/-- The drive part of a point (R11). `confirmed` is `none` for UNKNOWN. -/
structure DrivePart where
  target : Value
  confirmed : Option Value
  status : DriveStatus
  budget : Nat
  lastTag : Byte
deriving DecidableEq, Repr

/-- An entry of the echo table (R116). -/
structure EchoEntry where
  point : Fin 64
  tag : Byte
  sent : Value
  deadline : Time
deriving DecidableEq, Repr

/-- The Drive Unit (R116). -/
structure DriveUnit where
  parts : PerPoint DrivePart
  queue : List (Fin 64)
  echoes : List EchoEntry
  tagCounter : Byte
deriving DecidableEq, Repr

/-- An entry of the lane table (Table 4.1). -/
structure LaneEntry where
  state : LaneState
  strikes : Nat
  cleanRun : Nat
  credit : Nat
  beatDeadline : Option Time
  beatSeq : Option Byte
  holdDeadline : Option Time
  lastCause : LaneCause
deriving DecidableEq, Repr

/-- The Authority Unit (R92). -/
structure AuthorityUnit where
  holder : Option Lane
  epoch : Serial
  claims : List Lane
deriving DecidableEq, Repr

/-- An open restart collection (R110). -/
structure Collection where
  voters : LaneSet
  deadline : Time
deriving DecidableEq, Repr

/-- Safe Control (R105, R110): the safe flag, the SAFE_N pin and the restart collection. -/
structure SafeControl where
  flag : Bool
  safeN : Level
  collection : Option Collection
deriving DecidableEq, Repr

/-- A lane entry of an OUTCOME notice and record (R61). -/
structure Mention where
  lane : Lane
  value : Option Value
  mark : Mark
deriving DecidableEq, Repr

/-- The fields an OUTCOME notice and an OUTCOME record share (R62, R63). -/
structure OutcomeReport where
  point : Fin 64
  serial : Serial
  cause : CloseCause
  outcome : VoteOutcome
  decided : Option Value
  withheld : Bool
  entries : List Mention
deriving DecidableEq, Repr

/-- The notices (Table 8.6). -/
inductive Notice where
  | lane (subject : Lane) (old new : LaneState) (cause : LaneCause) (members : LaneSet)
  | authority (old new : Option Lane) (epoch : Serial) (cause : AuthCause) (claims : List Lane)
  | outcome (report : OutcomeReport)
  | pointFault (point : Fin 64) (cleared : Bool) (value : Value) (tag : Option Byte)
      (cause : Option ApplyCause) (readback : Option Value)
  | safe (direction : SafeDirection) (members minMembers : Nat)
  | journalFrozen (trigger : Word32) (kind : RecordKind) (subject : Option Lane) (newest : Word32)
  | restartExpired (voters : LaneSet) (threshold : Nat)
deriving DecidableEq, Repr

/-- The Notice Unit's state for one lane (R143). -/
structure NoticeBox where
  queue : List Notice
  lost : Nat
  seq : Byte
deriving DecidableEq, Repr

/-- The kind fields of a journal record (Table 9.1); the subject lane stands in `Record`. -/
inductive RecordBody where
  | outcome (report : OutcomeReport)
  | lane (old new : LaneState) (cause : LaneCause) (strikes : Nat)
  | authority (old new : Option Lane) (epoch : Serial) (cause : AuthCause)
  | applyFail (point : Fin 64) (tag : Byte) (value : Value) (cause : ApplyCause)
      (readback : Option Value) (final : Bool) (retries : Nat)
  | strayEcho (point : Byte) (tag : Byte) (status : EchoStatus) (readback : Option Value)
  | link (link : Link) (old new : LinkState) (cause : LinkCause)
  | safe (direction : SafeDirection) (members minMembers : Nat)
  | restart (kind : RestartKind) (voters : LaneSet)
  | config (oldDigest newDigest : Word32) (fitted : LaneSet) (first : Bool)
  | rearm (state : JournalState) (trigger : Option Word32) (dropped : Nat)
deriving DecidableEq, Repr

/-- A stored journal record (R150). -/
structure Record where
  seq : Word32
  time : Time
  subject : Option Lane
  body : RecordBody
deriving DecidableEq, Repr

/-- The trigger items the journal keeps: sequence, kind and subject of the trigger record (section 9.3). -/
structure Trigger where
  seq : Word32
  kind : RecordKind
  subject : Option Lane
deriving DecidableEq, Repr

/-- The Incident Journal (R152, section 9.3). The ring stands oldest first. -/
structure Journal where
  ring : List Record
  counter : Word32
  state : JournalState
  trigger : Option Trigger
  postCounter : Nat
  dropped : Nat
deriving DecidableEq, Repr

/-- The Configuration Unit (R163, R164, R172). -/
structure ConfigUnit where
  mode : Mode
  active : Image
  staging : Image
  digest : Word32
  committed : Bool
deriving DecidableEq, Repr

/-- A slot as POINT_READ reports it (Table 1.5): no proposal value is in it (R17). -/
structure SlotReport where
  serial : Serial
  state : SlotState
  timeLeft : Nat
  roll : LaneSet
  proposers : LaneSet
deriving DecidableEq, Repr

/-- The contents of an OK reply to POINT_READ (Table 1.5). -/
structure PointReport where
  point : Fin 64
  cfg : PointCfg
  next : Serial
  slots : List SlotReport
  last : Option LastClosing
  target : Value
  confirmed : Option Value
  status : DriveStatus
  retries : Nat
deriving DecidableEq, Repr

/-- The contents of a STATE reply (R80). -/
structure StateReport where
  mode : Mode
  safe : Bool
  own : LaneState
  strikes : Nat
  members : LaneSet
  holder : Option Lane
  epoch : Serial
  digest : Word32
  time : Time
  gap : Bool
deriving DecidableEq, Repr

/-- The contents of an OK reply to JOURNAL_READ (R157). -/
structure JournalReport where
  state : JournalState
  oldest : Option Word32
  newest : Option Word32
  trigger : Option Word32
  dropped : Nat
  gap : Bool
  records : List Record
deriving DecidableEq, Repr

/-- What STATUS reports of one link (R173). -/
structure LinkReport where
  state : LinkState
  discarded : Nat
  restarts : Nat
deriving DecidableEq, Repr

/-- The contents of an OK reply to STATUS (R173); the links stand in the order LA, LB, LC, DL, ML. -/
structure StatusReport where
  mode : Mode
  committed : Bool
  digest : Word32
  safe : Bool
  lanes : PerLane LaneState
  strikes : PerLane Nat
  holder : Option Lane
  epoch : Serial
  journal : JournalState
  links : List LinkReport
  time : Time
deriving DecidableEq, Repr

/-- The fields a reply carries after its kind and result (Table 11.7). -/
inductive ReplyFields where
  | nothing
  | entries (results : List EntryResult)
  | digest (d : Word32)
  | excluded (remaining : Nat) (cause : LaneCause)
  | state (r : StateReport)
  | epoch (e : Serial)
  | position (n : Nat)
  | yielded (epoch : Serial) (holder : Option Lane)
  | votes (count threshold remaining : Nat)
  | point (r : PointReport)
  | cleared (point : Fin 64) (target : Value)
  | journal (r : JournalReport)
  | sequence (seq : Word32)
  | fieldCode (code : Nat)
  | cfgRecord (selector index : Byte) (record : CfgRecord)
  | invalid (item : ItemCode) (point : Option (Fin 64))
  | status (r : StatusReport)
deriving DecidableEq, Repr

/-- A reply (R136): the request's kind byte and tag, the result code and the further fields. -/
structure Reply where
  kind : Byte
  tag : Byte
  result : Result
  fields : ReplyFields
deriving DecidableEq, Repr

/-- A request as it stands in a receive buffer (R136, R181). -/
structure Request where
  kind : Byte
  tag : Byte
  payload : List Byte
deriving DecidableEq, Repr

/-- A frame being sent (R182): a reply, a notice with the sequence and lost count written into it (R146), or an
APPLY (R122). -/
inductive TxFrame where
  | reply (r : Reply)
  | notice (seq : Byte) (lost : Nat) (n : Notice)
  | apply (point : Fin 64) (tag : Byte) (value : Value)
deriving DecidableEq, Repr

/-- A link unit (11, opening list). `waiting` holds the complete requests in the receive buffers, so the free
buffers number four less its length. `replies` keeps the reply being sent at its head until its END (R137, log 9).
`peerCredit` is the model's own: the GRANTs sent that the peer has not used (log 8). -/
structure LinkUnit where
  state : LinkState
  enabled : Bool
  waiting : List Request
  credit : Nat
  peerCredit : Nat
  backoff : Option Time
  handshake : Option Time
  silence : Option Time
  discarded : Nat
  restarts : Nat
  replies : List Reply
  sending : Option TxFrame
deriving DecidableEq, Repr

/-- One value for each link. -/
structure PerLink (α : Type) where
  la : α
  lb : α
  lc : α
  dl : α
  ml : α
deriving DecidableEq, Repr

end Sys2Proof.Machine
end

