-- ==== Sys2Proof/Machine/Flags.lean ====
section
/-! DEFINITION. The tests the rules make: whether a deadline has been reached, agreement and domain of values, serial
distance, completeness of a slot, the safe condition, saturating counts. -/

namespace Sys2Proof.Machine

/-- Whether arbiter time has reached a deadline: it lies less than half the 2^32 circle behind `now` (R28, R82, R122;
every deadline is set less than a half circle ahead, log 5). -/
def timeReached (now deadline : Time) : Bool := !(now - deadline).msb

/-- The time units left to a deadline, 0 once it has been reached (R16, R39). -/
def timeLeft (now deadline : Time) : Nat := if timeReached now deadline then 0 else (deadline - now).toNat

/-- The deadline that lies `units` after `now`, modulo 2^32. -/
def after (now : Time) (units : Nat) : Time := now + BitVec.ofNat 32 units

/-- Whether a timer is running and its deadline has been reached. -/
def timerDue (now : Time) : Option Time → Bool
  | none => false
  | some d => timeReached now d

/-- A count raised by one, stopping at its cap (00 convention 4). -/
def satInc (cap n : Nat) : Nat := if n < cap then n + 1 else cap

/-- Whether a lane is PROBATION or MEMBER. -/
def LaneState.joined : LaneState → Bool
  | .probation => true
  | .member => true
  | _ => false

/-- The magnitude of the exact difference of two values (R5, R52). -/
def distance (x y : Value) : Nat := (x.toInt - y.toInt).natAbs

/-- Whether two values of a point agree (R5): equal for DISCRETE, within the tolerance for LEVEL. -/
def agree (cfg : PointCfg) (x y : Value) : Bool :=
  match cfg.kind with
  | .discrete => x == y
  | .level => distance x y ≤ cfg.tolerance

/-- Whether a value lies in a point's domain (R4): 0 or 1 for DISCRETE whatever min and max hold, min to max for
LEVEL. -/
def inDomain (cfg : PointCfg) (v : Value) : Bool :=
  match cfg.kind with
  | .discrete => v == 0 || v == 1
  | .level => decide (cfg.min.toInt ≤ v.toInt) && decide (v.toInt ≤ cfg.max.toInt)

/-- The serial distance d of an entry from the point's next serial N, 0 to 65535 (R22). -/
def serialDistance (serial next : Serial) : Nat := (serial - next).toNat

/-- Whether a lane has a proposal in a slot (R26). -/
def Slot.hasProposal (s : Slot) (l : Lane) : Bool := s.proposals.any fun p => p.lane == l

/-- The lanes with a proposal in a slot (Table 1.5). -/
def Slot.proposers (s : Slot) : LaneSet := PerLane.tabulate s.hasProposal

/-- Whether a slot is complete (R27): every lane on its roll has a proposal in it. -/
def Slot.complete (s : Slot) : Bool := s.roll.subset s.proposers

/-- Whether the safe condition should hold (R105). -/
def safeShouldHold (mode : Mode) (members minMembers : Nat) : Bool :=
  mode == .config || decide (members < minMembers)

/-- The level of SAFE_N for a safe flag (R105). -/
def safeLevel (flag : Bool) : Level := if flag then .low else .high

/-- The gap flag of a STATE reply (R81). -/
def beatGap (recorded : Option Byte) (new : Byte) : Bool :=
  match recorded with
  | none => false
  | some r => new != r + 1

/-- The number of voters a restart needs: more than half of the fitted lanes (R110). -/
def restartThreshold (fitted : LaneSet) : Nat := fitted.count / 2 + 1

/-- Whether a link unit takes characters: it is in READY or RUN (Table 11.1). -/
def LinkState.up : LinkState → Bool
  | .ready => true
  | .run => true
  | _ => false

/-- The free receive buffers of a link unit (R179). -/
def LinkUnit.freeBuffers (u : LinkUnit) : Nat := Config.bufferCount - u.waiting.length

/-- Whether a link unit may start a frame (R147, R148, R179): RUN, a credit, not sending. -/
def LinkUnit.mayStart (u : LinkUnit) : Bool := u.state == .run && decide (1 ≤ u.credit) && u.sending.isNone

end Sys2Proof.Machine
end

