-- ==== Sys2Proof/Machine/Operands.lean ====
section
/-! DEFINITION. The fields of request and ECHO payloads, read as R184 and Table 11.6 lay them out. A reader answers
`none` for a payload whose length does not match or whose codes name no value: the BAD_FRAME of R138. -/

namespace Sys2Proof.Machine

/-- One entry of a PROPOSE request (R18). -/
structure ProposeEntry where
  point : Byte
  serial : Serial
  value : Value
deriving DecidableEq, Repr

/-- The entries of a PROPOSE payload after its count. -/
def readEntries : List Byte → Option (List ProposeEntry)
  | [] => some []
  | p :: s1 :: s0 :: v1 :: v0 :: rest =>
    match readEntries rest with
    | none => none
    | some es => some (⟨p, from16 s1 s0, from16 v1 v0⟩ :: es)
  | _ => none

/-- A PROPOSE payload (R18 check 2): a count of 1 to 16, and as many entries. -/
def readPropose : List Byte → Option (List ProposeEntry)
  | [] => none
  | n :: rest =>
    if n.toNat = 0 ∨ Config.proposeMax < n.toNat ∨ rest.length ≠ 5 * n.toNat then none else readEntries rest

/-- The payload of a request that carries no fields. -/
def readNothing : List Byte → Option Unit
  | [] => some ()
  | _ => none

/-- A JOIN payload: the digest. -/
def readDigest : List Byte → Option Word32
  | [b3, b2, b1, b0] => some (from32 b3 b2 b1 b0)
  | _ => none

/-- A BEAT payload: the beat sequence and the health (R79). -/
def readBeat : List Byte → Option (Byte × Health)
  | [q, h] => if h = 0 then some (q, .ok) else if h = 1 then some (q, .degraded) else none
  | _ => none

/-- A YIELD or JOURNAL_REARM payload: the epoch. -/
def readEpoch : List Byte → Option Serial
  | [e1, e0] => some (from16 e1 e0)
  | _ => none

/-- A POINT_READ payload: the point. -/
def readPoint : List Byte → Option Byte
  | [p] => some p
  | _ => none

/-- A POINT_CLEAR payload: the point and the epoch. -/
def readPointClear : List Byte → Option (Byte × Serial)
  | [p, e1, e0] => some (p, from16 e1 e0)
  | _ => none

/-- A JOURNAL_READ payload: the start sequence. -/
def readStart : List Byte → Option Word32
  | [b3, b2, b1, b0] => some (from32 b3 b2 b1 b0)
  | _ => none

/-- The record a CFG_WRITE or CFG_READ names: the global record, or a point record by index (R167). -/
inductive CfgTarget where
  | global
  | point (index : Byte)
deriving DecidableEq, Repr

/-- A CFG_WRITE payload (R167 check 1): the record named and the bytes of the canonical record. -/
def readCfgWrite : List Byte → Option (CfgTarget × List Byte)
  | selector :: index :: record =>
    if selector = 0 ∧ record.length = 15 then some (.global, record)
    else if selector = 1 ∧ record.length = 16 then some (.point index, record)
    else none
  | _ => none

/-- A CFG_READ payload (R168): the image, the record, the index byte as received. -/
def readCfgRead : List Byte → Option (ImageName × CfgTarget × Byte)
  | [image, selector, index] =>
    if 1 < image.toNat ∨ 1 < selector.toNat then none
    else some (if image = 0 then .active else .staging, if selector = 0 then .global else .point index, index)
  | _ => none

/-- A STATUS payload: the clear-counts flag (R173). -/
def readStatus : List Byte → Option Bool
  | [f] => if f = 0 then some false else if f = 1 then some true else none
  | _ => none

/-- A lane set byte: bit 0 for A, bit 1 for B, bit 2 for C (R184). -/
def readLaneSet (b : Byte) : LaneSet := ⟨b.getLsbD 0, b.getLsbD 1, b.getLsbD 2⟩

/-- A trigger mask byte: bits 0 to 5 in the order of Table 9.3 (R185). -/
def readTriggers (b : Byte) : TriggerMask :=
  ⟨b.getLsbD 0, b.getLsbD 1, b.getLsbD 2, b.getLsbD 3, b.getLsbD 4, b.getLsbD 5⟩

/-- The field code of the first field outside its range, given each field's code and whether it is in range, in
record order (R167 check 4, R184). -/
def firstBad : List (Nat × Bool) → Option Nat
  | [] => none
  | (code, inRange) :: rest => if inRange then firstBad rest else some code

/-- Whether a byte is a number from `lo` to `hi`. -/
def inRange (lo hi : Nat) (b : Byte) : Bool := decide (lo ≤ b.toNat) && decide (b.toNat ≤ hi)

/-- A canonical global record (Table 11.10) with its field ranges (Table 10.2): the record, or the field code of the
first field out of range. -/
def readGlobal : List Byte → Except Nat GlobalCfg
  | [fit, mm, sl, di, pl, bt, eh, et, er, au, ra, rb, rc, tm, pc] =>
    match firstBad [(0, inRange 0 7 fit), (1, inRange 1 3 mm), (2, inRange 1 15 sl), (3, inRange 1 255 di),
        (4, inRange 1 255 pl), (5, inRange 1 255 bt), (6, inRange 1 255 eh), (7, inRange 1 255 et),
        (8, inRange 0 3 er), (9, inRange 0 1 au), (10, inRange 0 2 ra), (11, inRange 0 2 rb), (12, inRange 0 2 rc),
        (13, inRange 0 63 tm)] with
    | some code => .error code
    | none => .ok
      { fitted := readLaneSet fit, minMembers := mm.toNat, strikeLimit := sl.toNat, decayInterval := di.toNat,
        probationLength := pl.toNat, beatTimeout := bt.toNat, exclusionHold := eh.toNat, echoTimeout := et.toNat,
        echoRetries := er.toNat, autoSuccession := au == 1, ranks := ⟨ra.toNat, rb.toNat, rc.toNat⟩,
        triggers := readTriggers tm, postCount := pc.toNat }
  | _ => .error 0

/-- A canonical point record (Table 11.10) with its field ranges (Table 1.2): the record, or the field code of the
first field out of range. Every signed 16-bit number is taken for min, max and the safe value (R167). -/
def readPointRecord : List Byte → Except Nat PointCfg
  | [en, kd, md, el, qu, t1, t0, n1, n0, x1, x0, s1, s0, wi, fb, no] =>
    match firstBad [(0, inRange 0 1 en), (1, inRange 0 1 kd), (2, inRange 0 1 md), (3, inRange 0 7 el),
        (4, inRange 1 3 qu), (5, decide ((from16 t1 t0).toNat ≤ 32767)), (13, inRange 1 255 wi),
        (14, inRange 0 1 fb), (15, inRange 0 7 no)] with
    | some code => .error code
    | none => .ok
      { enabled := en == 1, kind := if kd = 0 then .discrete else .level,
        mode := if md = 0 then .majority else .authority, electorate := readLaneSet el, quorum := qu.toNat,
        tolerance := (from16 t1 t0).toNat, min := from16 n1 n0, max := from16 x1 x0, safe := from16 s1 s0,
        window := wi.toNat, fallback := if fb = 0 then .hold else .safe, notify := readLaneSet no }
  | _ => .error 0

/-- An ECHO payload (R123, Table 11.6): the point, the status, and with DONE the readback. -/
def readEcho : List Byte → Option (Byte × EchoStatus × Option Value)
  | [p, st] => if st = 1 then some (p, .rejected, none) else none
  | [p, st, r1, r0] => if st = 0 then some (p, .done, some (from16 r1 r0)) else none
  | _ => none

/-- The point record named by a point byte: none above 63 (R1, R15). -/
def pointOf (p : Byte) : Option (Fin 64) := if h : p.toNat < 64 then some ⟨p.toNat, h⟩ else none

end Sys2Proof.Machine
end

