-- ==== Sys2Proof/Machine/Formats.lean ====
section
/-! DEFINITION. What the part sends, as bytes: the enumerated codes (R185), the payloads (R186), the journal records
(R187), the canonical configuration records (R188), and the digest over them (R172). -/

namespace Sys2Proof.Machine

/-- A number sent as one byte. -/
def byte (n : Nat) : Byte := BitVec.ofNat 8 n

/-- A number sent as two bytes, most significant first (R184). -/
def nat16 (n : Nat) : List Byte := be16 (BitVec.ofNat 16 n)

/-- A flag: 0 clear, 1 set (R184). -/
def flagByte (b : Bool) : Byte := if b then 1 else 0

/-- A lane: 0 for A, 1 for B, 2 for C (R184). -/
def laneByte : Lane → Byte
  | .a => 0
  | .b => 1
  | .c => 2

/-- An optional lane: H'FF for none (R184). -/
def laneByte? : Option Lane → Byte
  | none => 0xFF
  | some l => laneByte l

/-- A lane set: bit 0 for A, bit 1 for B, bit 2 for C (R184). -/
def laneSetByte (s : LaneSet) : Byte :=
  (if s.a then 1 else 0) ||| (if s.b then 2 else 0) ||| (if s.c then 4 else 0)

/-- An optional 16-bit value: a presence byte, then the field, zero when absent (R184). -/
def value? : Option Value → List Byte
  | none => [0, 0, 0]
  | some v => 1 :: be16 v

/-- An optional 32-bit number: a presence byte, then the field, zero when absent (R184). -/
def word32? : Option Word32 → List Byte
  | none => [0, 0, 0, 0, 0]
  | some v => 1 :: be32 v

/-- An optional tag: a presence byte, then the tag, zero when absent (R184). -/
def tag? : Option Byte → List Byte
  | none => [0, 0]
  | some t => [1, t]

/-- The trigger mask: bits 0 to 5 in the order of Table 9.3 (R185). -/
def triggerByte (m : TriggerMask) : Byte :=
  (if m.laneExcluded then 1 else 0) ||| (if m.pointFault then 2 else 0) ||| (if m.noDecision then 4 else 0) |||
    (if m.safeEntered then 8 else 0) ||| (if m.authorityLost then 16 else 0) ||| (if m.restart then 32 else 0)

/-- Table 11.5, lane state. -/
def LaneState.code : LaneState → Byte
  | .absent => 0
  | .down => 1
  | .probation => 2
  | .member => 3
  | .excluded => 4

/-- Table 11.5, lane cause: Table 4.3 in table order. -/
def LaneCause.code : LaneCause → Byte
  | .founded => 0
  | .joined => 1
  | .probationPassed => 2
  | .probationFailed => 3
  | .noMember => 4
  | .miscompare => 5
  | .missed => 6
  | .selfReported => 7
  | .beatLost => 8
  | .left => 9
  | .linkLost => 10
  | .holdEnded => 11
  | .restart => 12
  | .fitted => 13
  | .unfitted => 14
  | .powerOn => 15

/-- Table 11.5, mode. -/
def Mode.code : Mode → Byte
  | .config => 0
  | .operate => 1

/-- Table 11.5, point kind. -/
def PointKind.code : PointKind → Byte
  | .discrete => 0
  | .level => 1

/-- Table 11.5, point mode. -/
def PointMode.code : PointMode → Byte
  | .majority => 0
  | .authority => 1

/-- Table 11.5, fallback. -/
def Fallback.code : Fallback → Byte
  | .hold => 0
  | .safe => 1

/-- Table 11.5, closing cause. -/
def CloseCause.code : CloseCause → Byte
  | .complete => 0
  | .expired => 1

/-- Table 11.5, slot state. -/
def SlotState.code : SlotState → Byte
  | .opened => 0
  | .ripe .complete => 1
  | .ripe .expired => 2

/-- Table 11.5, outcome. -/
def VoteOutcome.code : VoteOutcome → Byte
  | .unanimous => 0
  | .majority => 1
  | .agreed => 2
  | .single => 3
  | .holderDecided => 4
  | .split => 5
  | .short => 6
  | .empty => 7
  | .noAuthority => 8

/-- Table 11.5, mark. -/
def Mark.code : Mark → Byte
  | .agree => 0
  | .dissent => 1
  | .neutral => 2
  | .missed => 3
  | .observerOk => 4
  | .observerFail => 5

/-- Table 11.5, authority cause: Table 5.1 in table order. -/
def AuthCause.code : AuthCause → Byte
  | .claimed => 0
  | .yielded => 1
  | .succeededQueue => 2
  | .succeededRank => 3
  | .lost => 4
  | .restart => 5

/-- Table 11.5, drive status. -/
def DriveStatus.code : DriveStatus → Byte
  | .idle => 0
  | .queued => 1
  | .inFlight => 2
  | .faulted => 3

/-- Table 11.5, apply cause. -/
def ApplyCause.code : ApplyCause → Byte
  | .timeout => 0
  | .mismatch => 1
  | .rejected => 2
  | .cleared => 3

/-- An optional apply cause: H'FF when absent (R184). -/
def applyCauseByte? : Option ApplyCause → Byte
  | none => 0xFF
  | some c => c.code

/-- Table 11.5, echo status. -/
def EchoStatus.code : EchoStatus → Byte
  | .done => 0
  | .rejected => 1

/-- Table 11.5, link. -/
def linkByte : Link → Byte
  | .la => 0
  | .lb => 1
  | .lc => 2
  | .dl => 3
  | .ml => 4

/-- Table 11.5, link state. -/
def LinkState.code : LinkState → Byte
  | .off => 0
  | .waking => 1
  | .ready => 2
  | .run => 3

/-- Table 11.5, link cause. -/
def linkCauseByte : LinkCause → Byte
  | .handshake => 0
  | .code => 1
  | .silence => 2
  | .credit => 3
  | .framing => 4
  | .disabled => 5

/-- Table 11.5, journal state. -/
def JournalState.code : JournalState → Byte
  | .recording => 0
  | .postTrigger => 1
  | .frozen => 2

/-- Table 11.5, record kind: Table 9.1 in table order. -/
def RecordKind.code : RecordKind → Byte
  | .outcome => 0
  | .lane => 1
  | .authority => 2
  | .applyFail => 3
  | .strayEcho => 4
  | .link => 5
  | .safe => 6
  | .restart => 7
  | .config => 8
  | .rearm => 9

/-- Table 11.5, restart kind. -/
def RestartKind.code : RestartKind → Byte
  | .laneVoted => 0
  | .maintenance => 1

/-- Table 11.5, direction. -/
def SafeDirection.code : SafeDirection → Byte
  | .entered => 0
  | .exited => 1

/-- Table 11.5, item code: Table 10.4 in table order. -/
def ItemCode.code : ItemCode → Byte
  | .noLane => 0
  | .minMembers => 1
  | .ranks => 2
  | .electorateEmpty => 3
  | .electorateUnfitted => 4
  | .quorum => 5
  | .safeRange => 6
  | .discreteForm => 7

/-- The codes of frame results: H'00 upward in the order of Table 8.2 (R184). -/
def Result.code : Result → Byte
  | .ok => 0
  | .badFrame => 1
  | .badKind => 2
  | .notPermitted => 3
  | .wrongMode => 4
  | .notMember => 5
  | .notFitted => 6
  | .alreadyJoined => 7
  | .digestMismatch => 8
  | .excluded => 9
  | .founded => 10
  | .probation => 11
  | .granted => 12
  | .queued => 13
  | .alreadyHolder => 14
  | .duplicate => 15
  | .notQueued => 16
  | .notHolder => 17
  | .staleEpoch => 18
  | .notFaulted => 19
  | .pending => 20
  | .restarted => 21
  | .busy => 22
  | .invalidConfig => 23
  | .noActive => 24
  | .badIndex => 25
  | .outOfRange => 26
  | .notFrozen => 27
  | .subjectLane => 28

/-- The codes of PROPOSE entry results: H'00 upward in the order of Table 8.3 (R184). -/
def EntryResult.code : EntryResult → Byte
  | .accepted => 0
  | .notMember => 1
  | .pointDisabled => 2
  | .notElector => 3
  | .outOfRange => 4
  | .stale => 5
  | .ahead => 6
  | .notOnRoll => 7
  | .duplicate => 8
  | .late => 9

/-- The canonical global record (Table 11.10). -/
def globalBytes (g : GlobalCfg) : List Byte :=
  [laneSetByte g.fitted, byte g.minMembers, byte g.strikeLimit, byte g.decayInterval, byte g.probationLength,
    byte g.beatTimeout, byte g.exclusionHold, byte g.echoTimeout, byte g.echoRetries, flagByte g.autoSuccession,
    byte g.ranks.a, byte g.ranks.b, byte g.ranks.c, triggerByte g.triggers, byte g.postCount]

/-- The canonical point record (Table 11.10). -/
def pointBytes (c : PointCfg) : List Byte :=
  [flagByte c.enabled, c.kind.code, c.mode.code, laneSetByte c.electorate, byte c.quorum] ++ nat16 c.tolerance ++
    be16 c.min ++ be16 c.max ++ be16 c.safe ++ [byte c.window, c.fallback.code, laneSetByte c.notify]

/-- The canonical form of a record. -/
def CfgRecord.bytes : CfgRecord → List Byte
  | .global g => globalBytes g
  | .point c => pointBytes c

/-- The canonical form of an image (R172, R188): the global record, then the points in ascending order. -/
def Image.bytes (i : Image) : List Byte :=
  globalBytes i.global ++ (i.points.toList.map pointBytes).flatten

/-- The digest of an image (R172). -/
def Image.digest (i : Image) : Word32 := crc32 i.bytes

/-- A lane entry of an OUTCOME notice or record (Table 11.8). -/
def Mention.bytes (m : Mention) : List Byte := laneByte m.lane :: value? m.value ++ [m.mark.code]

/-- The fields of an OUTCOME notice after its lost count (Table 11.8). -/
def OutcomeReport.bytes (r : OutcomeReport) : List Byte :=
  [byte r.point] ++ be16 r.serial ++ [r.cause.code, r.outcome.code] ++ value? r.decided ++
    [flagByte r.withheld, byte r.entries.length] ++ (r.entries.map Mention.bytes).flatten

/-- The queued lanes of an AUTHORITY notice: two bytes, H'FF where unused (Table 11.8). -/
def claimBytes : List Lane → List Byte
  | [] => [0xFF, 0xFF]
  | [l] => [laneByte l, 0xFF]
  | l :: m :: _ => [laneByte l, laneByte m]

/-- The kind code of a notice (Table 11.4). -/
def Notice.kindCode : Notice → Byte
  | .lane .. => 0x90
  | .authority .. => 0x91
  | .outcome .. => 0x92
  | .pointFault .. => 0x93
  | .safe .. => 0x94
  | .journalFrozen .. => 0x95
  | .restartExpired .. => 0x96

/-- The fields of a notice after its lost count (Table 11.8). -/
def Notice.bytes : Notice → List Byte
  | .lane subject old new cause members =>
    [laneByte subject, old.code, new.code, cause.code, laneSetByte members]
  | .authority old new epoch cause claims =>
    [laneByte? old, laneByte? new] ++ be16 epoch ++ [cause.code, byte claims.length] ++ claimBytes claims
  | .outcome report => report.bytes
  | .pointFault point cleared value tag cause readback =>
    [byte point, flagByte cleared] ++ be16 value ++ tag? tag ++ [applyCauseByte? cause] ++ value? readback
  | .safe direction members minMembers => [direction.code, byte members, byte minMembers]
  | .journalFrozen trigger kind subject newest =>
    be32 trigger ++ [kind.code, laneByte? subject] ++ be32 newest
  | .restartExpired voters threshold => [laneSetByte voters, byte threshold]

/-- The kind of a record body (Table 9.1). -/
def RecordBody.kind : RecordBody → RecordKind
  | .outcome .. => .outcome
  | .lane .. => .lane
  | .authority .. => .authority
  | .applyFail .. => .applyFail
  | .strayEcho .. => .strayEcho
  | .link .. => .link
  | .safe .. => .safe
  | .restart .. => .restart
  | .config .. => .config
  | .rearm .. => .rearm

/-- The kind fields of a record (Table 11.9). -/
def RecordBody.bytes : RecordBody → List Byte
  | .outcome report => report.bytes
  | .lane old new cause strikes => [old.code, new.code, cause.code, byte strikes]
  | .authority old new epoch cause => [laneByte? old, laneByte? new] ++ be16 epoch ++ [cause.code]
  | .applyFail point tag value cause readback final retries =>
    [byte point, tag] ++ be16 value ++ [cause.code] ++ value? readback ++ [flagByte final, byte retries]
  | .strayEcho point tag status readback => [point, tag, status.code] ++ value? readback
  | .link l old new cause => [linkByte l, old.code, new.code, linkCauseByte cause]
  | .safe direction members minMembers => [direction.code, byte members, byte minMembers]
  | .restart kind voters => [kind.code, laneSetByte voters]
  | .config oldDigest newDigest fitted first =>
    be32 oldDigest ++ be32 newDigest ++ [laneSetByte fitted, flagByte first]
  | .rearm state trigger dropped => [state.code] ++ word32? trigger ++ nat16 dropped

/-- A record in a JOURNAL_READ reply (R187). -/
def Record.bytes (r : Record) : List Byte :=
  be32 r.seq ++ be32 r.time ++ [r.body.kind.code, laneByte? r.subject, byte r.body.bytes.length] ++ r.body.bytes

/-- A slot in a POINT_READ reply (Table 11.7). -/
def SlotReport.bytes (r : SlotReport) : List Byte :=
  be16 r.serial ++ [r.state.code, byte r.timeLeft, laneSetByte r.roll, laneSetByte r.proposers]

/-- The last closing in a POINT_READ reply (Table 11.7): the whole group is zero when absent (R184). -/
def lastClosingBytes : Option LastClosing → List Byte
  | none => List.replicate 13 0
  | some l =>
    [1] ++ be16 l.serial ++ [l.cause.code, l.outcome.code] ++ value? l.decided ++ [flagByte l.withheld] ++ be32 l.time

/-- The fields of a reply after its result code (Table 11.7). -/
def ReplyFields.bytes : ReplyFields → List Byte
  | .nothing => []
  | .entries results => byte results.length :: results.map EntryResult.code
  | .digest d => be32 d
  | .excluded remaining cause => nat16 remaining ++ [cause.code]
  | .state r =>
    [r.mode.code, flagByte r.safe, r.own.code, byte r.strikes, laneSetByte r.members, laneByte? r.holder] ++
      be16 r.epoch ++ be32 r.digest ++ be32 r.time ++ [flagByte r.gap]
  | .epoch e => be16 e
  | .position n => [byte n]
  | .yielded e holder => be16 e ++ [laneByte? holder]
  | .votes count threshold remaining => [byte count, byte threshold] ++ nat16 remaining
  | .point r =>
    [byte r.point] ++ pointBytes r.cfg ++ be16 r.next ++ [byte r.slots.length] ++
      (r.slots.map SlotReport.bytes).flatten ++ lastClosingBytes r.last ++ be16 r.target ++ value? r.confirmed ++
      [r.status.code, byte r.retries]
  | .cleared p target => byte p :: be16 target
  | .journal r =>
    [r.state.code] ++ word32? r.oldest ++ word32? r.newest ++ word32? r.trigger ++ nat16 r.dropped ++
      [flagByte r.gap, byte r.records.length] ++ (r.records.map Record.bytes).flatten
  | .sequence seq => be32 seq
  | .fieldCode code => [byte code]
  | .cfgRecord selector index record => [selector, index] ++ record.bytes
  | .invalid item none => [item.code, 0xFF]
  | .invalid item (some p) => [item.code, byte p]
  | .status r =>
    [r.mode.code, flagByte r.committed] ++ be32 r.digest ++
      [flagByte r.safe, r.lanes.a.code, r.lanes.b.code, r.lanes.c.code, byte r.strikes.a, byte r.strikes.b,
        byte r.strikes.c, laneByte? r.holder] ++
      be16 r.epoch ++ [r.journal.code] ++
      (r.links.map fun l => [l.state.code, byte l.discarded, byte l.restarts]).flatten ++ be32 r.time

/-- The payload of a reply (Table 11.7): the request's kind, the result code, the further fields. -/
def Reply.payload (r : Reply) : List Byte := r.kind :: r.result.code :: r.fields.bytes

/-- The data characters of a frame the part sends (R180, R185, R186). -/
def TxFrame.bytes : TxFrame → List Byte
  | .reply r => frameBytes replyKind r.tag r.payload
  | .notice seq lost n => frameBytes n.kindCode seq (byte lost :: n.bytes)
  | .apply point tag value => frameBytes applyKind tag (byte point :: be16 value)

end Sys2Proof.Machine
end

