-- ==== Sys2Proof/Machine/PowerOn.lean ====
section
/-! DEFINITION. What each block holds at power-on, as functions of the straps: R12 and R41 (points), R87 (lanes),
R103 (authority), R115 (safe control), R116 (drive), R149 (notices), R161 (journal), R164 and Table 10.2
(configuration), R140 and R176 (links). -/

namespace Sys2Proof.Machine

/-- The default global record (Table 10.2). -/
def defaultGlobal (straps : LaneSet) : GlobalCfg where
  fitted := straps
  minMembers := if straps.count = 0 then 1 else min 2 straps.count
  strikeLimit := 3
  decayInterval := 64
  probationLength := 8
  beatTimeout := 20
  exclusionHold := 50
  echoTimeout := 10
  echoRetries := 1
  autoSuccession := true
  ranks := ⟨0, 1, 2⟩
  triggers := ⟨true, true, false, false, false, false⟩
  postCount := 32

/-- The default point record (R12). -/
def defaultPoint (straps : LaneSet) : PointCfg where
  enabled := false
  kind := .discrete
  mode := .majority
  electorate := straps
  quorum := 1
  tolerance := 0
  min := 0
  max := 1
  safe := 0
  window := 20
  fallback := .hold
  notify := LaneSet.empty

/-- The default image (R164). -/
def defaultImage (straps : LaneSet) : Image := ⟨defaultGlobal straps, Vector.replicate 64 (defaultPoint straps)⟩

/-- The Configuration Unit at power-on (R164, R172): CONFIG mode, both images default, the flag clear. -/
def powerOnConfig (straps : LaneSet) : ConfigUnit where
  mode := .config
  active := defaultImage straps
  staging := defaultImage straps
  digest := (defaultImage straps).digest
  committed := false

/-- The vote part of a point at power-on, and after every re-initialisation (R12, R13, R14, Table 1.4). -/
def clearedVote : VotePart := ⟨0, [], none⟩

/-- The Drive Unit at power-on (R12, R116). -/
def powerOnDrive : DriveUnit where
  parts := Vector.replicate 64 ⟨0, none, .idle, 1, 0⟩
  queue := []
  echoes := []
  tagCounter := 0

/-- A lane entry at power-on (R87). -/
def powerOnLane (fitted : Bool) : LaneEntry where
  state := if fitted then .down else .absent
  strikes := 0
  cleanRun := 0
  credit := 0
  beatDeadline := none
  beatSeq := none
  holdDeadline := none
  lastCause := .powerOn

/-- The Authority Unit at power-on (R103). -/
def powerOnAuthority : AuthorityUnit := ⟨none, 0, []⟩

/-- Safe Control at power-on (R105, R115). -/
def powerOnSafe : SafeControl := ⟨true, .low, none⟩

/-- The Notice Unit's state for a lane at power-on and after a warm restart (R149). -/
def clearedBox : NoticeBox := ⟨[], 0, 0⟩

/-- The journal at power-on (R161): the first record stored takes sequence 1. -/
def powerOnJournal : Journal := ⟨[], 1, .recording, none, 0, 0⟩

/-- A link unit while RESET_N is low (R176, R189): OFF, its timers stopped, its buffers free. -/
def stoppedLink : LinkUnit where
  state := .off
  enabled := false
  waiting := []
  credit := 0
  peerCredit := 0
  backoff := none
  handshake := none
  silence := none
  discarded := 0
  restarts := 0
  replies := []
  sending := none

/-- A link unit at the release of RESET_N: enabled or not, with the backoff timer started from arbiter time 0 where
it is enabled (R176). -/
def releasedLink (enabled : Bool) : LinkUnit :=
  { stoppedLink with
    enabled := enabled
    backoff := if enabled then some (BitVec.ofNat 32 Config.backoffUnits) else none }

end Sys2Proof.Machine
end

