-- ==== Sys2Proof/Machine/State.lean ====
section
/-! DEFINITION. The state of the ZA2416, block by block (Table 0.2), the reasons a step can stop, and the state right
after RESET_N is released. -/

namespace Sys2Proof.Machine

/-- Reasons for which the part stops with a fault. There are none: the manual names no condition that stops the
part (a bad request is answered, a bad frame discarded, a line error takes its link to OFF), so nothing raises one. -/
inductive Fault where
deriving DecidableEq, Repr

/-- Reasons for which the model has no meaning for a command. -/
inductive Refusal where
  /-- Raised by an arm of `exec` whose command has no meaning in the model yet, with its mnemonic; safe. No arm
  raises it: every row of the table has its meaning. -/
  | notModelled (mnemonic : String)
deriving DecidableEq, Repr

/-- The state of the part and the queue of commands that wait. -/
structure State where
  /-- the level of RESET_N (R189) -/
  resetN : Level
  /-- FIT_A, FIT_B and FIT_C as sampled at the last release of RESET_N (R189) -/
  straps : LaneSet
  /-- TB: arbiter time (R189) -/
  time : Time
  /-- CU (R163, R164, R172) -/
  cu : ConfigUnit
  /-- VE: the vote part of each point (R10) -/
  ve : PerPoint VotePart
  /-- DU (R11, R116) -/
  du : DriveUnit
  /-- LM: the lane table (R66) -/
  lm : PerLane LaneEntry
  /-- AU (R92) -/
  au : AuthorityUnit
  /-- SC (R105, R110) -/
  sc : SafeControl
  /-- NU: one notice queue, lost count and sequence for each lane (R143) -/
  nu : PerLane NoticeBox
  /-- IJ (R152) -/
  ij : Journal
  /-- LU-A, LU-B, LU-C, LU-D and LU-M (11, opening list) -/
  lu : PerLink LinkUnit
  /-- the commands that wait, first in, first out -/
  pending : List Instr
deriving DecidableEq, Repr

/-- Every block at its power-on values, for straps at these levels, right after the release of RESET_N (R189): DL and
ML are enabled, and each lane link whose lane is strapped fitted (R176). -/
def State.powerOn (straps : LaneSet) (pending : List Instr) : State where
  resetN := .high
  straps := straps
  time := 0
  cu := powerOnConfig straps
  ve := Vector.replicate 64 clearedVote
  du := powerOnDrive
  lm := straps.map powerOnLane
  au := powerOnAuthority
  sc := powerOnSafe
  nu := ⟨clearedBox, clearedBox, clearedBox⟩
  ij := powerOnJournal
  lu := ⟨releasedLink straps.a, releasedLink straps.b, releasedLink straps.c, releasedLink true, releasedLink true⟩
  pending := pending

/-- The part while RESET_N is low (R189): every block at its power-on values, every link OFF with its timers
stopped, SAFE_N low. The straps are those last sampled (log 2). -/
def State.held (straps : LaneSet) (pending : List Instr) : State :=
  { State.powerOn straps pending with
    resetN := .low
    lu := ⟨stoppedLink, stoppedLink, stoppedLink, stoppedLink, stoppedLink⟩ }

/-- The machine right after RESET_N is released, with all three straps high (the levels of the straps are a DESIGN
CHOICE, log 1) and no command waiting. -/
def State.reset : State := State.powerOn ⟨true, true, true⟩ []

end Sys2Proof.Machine
end

