-- ==== Sys2Proof/Machine/Ops.lean ====
section
/-! DEFINITION. The named operations over the state's tables, and the two services every block uses: submitting a
notice to the Notice Unit (R141, R143) and a record to the Incident Journal (R152 to R155). -/

namespace Sys2Proof.Machine

/-! ### Points and links -/

/-- What a table of points holds for a point. -/
def PerPoint.at {α : Type} (v : PerPoint α) (p : Fin 64) : α := v[p.val]'p.isLt

/-- A table of points with one point's entry replaced. -/
def PerPoint.put {α : Type} (v : PerPoint α) (p : Fin 64) (x : α) : PerPoint α := v.set p.val x p.isLt

/-- The points in ascending order (R13, R107). -/
def allPoints : List (Fin 64) := List.finRange 64

/-- The table of points that a function gives. -/
def tabulatePoints {α : Type} (f : Fin 64 → α) : PerPoint α :=
  ⟨⟨allPoints.map f⟩, by simp [allPoints]⟩

/-- What is held for a link. -/
def PerLink.get {α : Type} (v : PerLink α) : Link → α
  | .la => v.la
  | .lb => v.lb
  | .lc => v.lc
  | .dl => v.dl
  | .ml => v.ml

/-- `v` with the value for one link replaced. -/
def PerLink.set {α : Type} (v : PerLink α) (l : Link) (x : α) : PerLink α :=
  match l with
  | .la => { v with la := x }
  | .lb => { v with lb := x }
  | .lc => { v with lc := x }
  | .dl => { v with dl := x }
  | .ml => { v with ml := x }

/-- `v` with a function applied for every link. -/
def PerLink.map {α β : Type} (f : α → β) (v : PerLink α) : PerLink β := ⟨f v.la, f v.lb, f v.lc, f v.dl, f v.ml⟩

/-! ### Reading and replacing parts of the state -/

/-- The global record of the active image (R164, R165). -/
def State.global (s : State) : GlobalCfg := s.cu.active.global

/-- The configured part of a point: from the active image (R1). -/
def State.cfgOf (s : State) (p : Fin 64) : PointCfg := s.cu.active.points.at p

/-- The vote part of a point. -/
def State.voteOf (s : State) (p : Fin 64) : VotePart := s.ve.at p

/-- The state with a point's vote part replaced. -/
def State.putVote (s : State) (p : Fin 64) (v : VotePart) : State := { s with ve := s.ve.put p v }

/-- The drive part of a point. -/
def State.driveOf (s : State) (p : Fin 64) : DrivePart := s.du.parts.at p

/-- A lane's entry in the lane table. -/
def State.lane (s : State) (l : Lane) : LaneEntry := s.lm.get l

/-- The state with a lane's entry replaced. -/
def State.putLane (s : State) (l : Lane) (e : LaneEntry) : State := { s with lm := s.lm.set l e }

/-- A lane's state. -/
def State.laneState (s : State) (l : Lane) : LaneState := (s.lane l).state

/-- The set of MEMBER lanes. -/
def State.members (s : State) : LaneSet := PerLane.tabulate fun l => s.laneState l == .member

/-- The number of MEMBER lanes (R105). -/
def State.memberCount (s : State) : Nat := s.members.count

/-- The set of lanes that are PROBATION or MEMBER. -/
def State.joined (s : State) : LaneSet := PerLane.tabulate fun l => (s.laneState l).joined

/-- A link unit. -/
def State.link (s : State) (l : Link) : LinkUnit := s.lu.get l

/-- The state with a link unit replaced. -/
def State.putLink (s : State) (l : Link) (u : LinkUnit) : State := { s with lu := s.lu.set l u }

/-! ### The Notice Unit -/

/-- A notice joining a lane's queue, or discarded and counted as lost when the queue holds 16 (R143). -/
def NoticeBox.push (n : Notice) (b : NoticeBox) : NoticeBox :=
  if b.queue.length < Config.noticeCapacity then { b with queue := b.queue ++ [n] }
  else { b with lost := satInc 255 b.lost }

/-- A lane's queue emptied and its lost count set to 0; the sequence is kept (Table 8.7). -/
def NoticeBox.emptied (b : NoticeBox) : NoticeBox := { b with queue := [], lost := 0 }

/-- A notice submitted for a set of recipients: a copy is queued for each that is PROBATION or MEMBER (R141). -/
def State.notify (recipients : LaneSet) (n : Notice) (s : State) : State :=
  { s with nu := PerLane.tabulate fun l =>
      if recipients.get l && (s.laneState l).joined then (s.nu.get l).push n else s.nu.get l }

/-- A lane's notice queue emptied (R144). -/
def State.emptyNotices (l : Lane) (s : State) : State := { s with nu := s.nu.set l (s.nu.get l).emptied }

/-- The LANE notice of a lane's own exclusion, queued for it (R144). -/
def State.noticeTo (l : Lane) (n : Notice) (s : State) : State := { s with nu := s.nu.set l ((s.nu.get l).push n) }

/-! ### The Incident Journal -/

/-- Whether a record matches a selected trigger (Table 9.3). -/
def TriggerMask.selects (m : TriggerMask) : RecordBody → Bool
  | .lane _ new _ _ => m.laneExcluded && new == .excluded
  | .applyFail _ _ _ _ _ final _ => m.pointFault && final
  | .outcome r =>
    m.noDecision && (r.outcome == .split || r.outcome == .short || r.outcome == .empty || r.outcome == .noAuthority)
  | .safe direction _ _ => m.safeEntered && direction == .entered
  | .authority _ _ _ cause =>
    m.authorityLost && (cause == .lost || cause == .succeededQueue || cause == .succeededRank)
  | .restart _ _ => m.restart
  | _ => false

/-- A record stored at the end of the ring with the next sequence and the time; the oldest is discarded first when
the ring holds 256 (R152). -/
def Journal.store (now : Time) (subject : Option Lane) (body : RecordBody) (j : Journal) : Journal :=
  { j with
    ring := (if j.ring.length < Config.ringCapacity then j.ring else j.ring.tail) ++
      [⟨j.counter, now, subject, body⟩]
    counter := j.counter + 1 }

/-- A record submitted to the journal, in each of its states (Table 9.2, R153 to R155), with the trigger mask and
the post-trigger count of the active image. -/
def Journal.submit (mask : TriggerMask) (postCount : Nat) (now : Time) (subject : Option Lane) (body : RecordBody)
    (j : Journal) : Journal :=
  match j.state with
  | .frozen => { j with dropped := satInc 65535 j.dropped }
  | .recording =>
    if mask.selects body then
      { j.store now subject body with
        trigger := some ⟨j.counter, body.kind, subject⟩
        postCounter := postCount
        state := if postCount = 0 then .frozen else .postTrigger }
    else j.store now subject body
  | .postTrigger =>
    { j.store now subject body with
      postCounter := j.postCounter - 1
      state := if j.postCounter - 1 = 0 then .frozen else .postTrigger }

/-- The JOURNAL_FROZEN notice of a journal that has just stored its newest record (R154). -/
def Journal.frozenNotice (j : Journal) : Option Notice :=
  j.trigger.map fun t => .journalFrozen t.seq t.kind t.subject (j.counter - 1)

/-- A record submitted by a block: the journal takes it, and when it becomes FROZEN by it the JOURNAL_FROZEN notice
goes to every lane PROBATION or MEMBER (R154). -/
def State.submit (subject : Option Lane) (body : RecordBody) (s : State) : State :=
  let s' := { s with ij := s.ij.submit s.global.triggers s.global.postCount s.time subject body }
  if s.ij.state ≠ .frozen ∧ s'.ij.state = .frozen then
    match s'.ij.frozenNotice with
    | none => s'
    | some n => s'.notify s'.joined n
  else s'

end Sys2Proof.Machine
end

