-- ==== Sys2Proof/Machine/AuthorityUnit.lean ====
section
/-! DEFINITION. The Authority Unit's own operations (05_command_authority.md): a change of holder and what it
produces (R93, R94), succession when the holder departs (R99), and the clearing at a warm restart (R103). -/

namespace Sys2Proof.Machine

/-- The holder and claim queue replaced and the epoch raised by one (R93). -/
def AuthorityUnit.change (holder : Option Lane) (claims : List Lane) (u : AuthorityUnit) : AuthorityUnit where
  holder := holder
  epoch := u.epoch + 1
  claims := claims

/-- A change of holder (R94): the holder, the claim queue and the epoch, then the AUTHORITY notice to every lane
PROBATION or MEMBER, then the AUTHORITY record. -/
def State.changeHolder (holder : Option Lane) (claims : List Lane) (cause : AuthCause) (subject : Lane) (s : State) :
    State :=
  let old := s.au.holder
  let s1 := { s with au := s.au.change holder claims }
  let s2 := s1.notify s1.joined (.authority old holder s1.au.epoch cause claims)
  s2.submit (some subject) (.authority old holder s1.au.epoch cause)

/-- The lane of the lowest rank in a set; the earlier lane where ranks repeat, which no committed image lets happen
among fitted lanes (R99, R104). -/
def bestRanked (ranks : PerLane Nat) (lanes : LaneSet) : Option Lane :=
  lanes.toList.foldl (fun best l =>
    match best with
    | none => some l
    | some m => if ranks.get l < ranks.get m then some l else some m) none

/-- A lane's claim removed from the claim queue, the gap closed (R98, R99). -/
def AuthorityUnit.dropClaim (l : Lane) (u : AuthorityUnit) : AuthorityUnit :=
  { u with claims := u.claims.filter fun m => m != l }

/-- The Authority Unit told that a lane has left MEMBER (R99): its claim goes, and if it held authority the queue
head succeeds, else the best-ranked MEMBER with auto-succession on, else none (Table 5.3). -/
def State.succeed (l : Lane) (s : State) : State :=
  let s1 := { s with au := s.au.dropClaim l }
  if s1.au.holder = some l then
    match s1.au.claims with
    | h :: rest => s1.changeHolder (some h) rest .succeededQueue l
    | [] =>
      match (if s1.global.autoSuccession then bestRanked s1.global.ranks s1.members else none) with
      | some m => s1.changeHolder (some m) [] .succeededRank l
      | none => s1.changeHolder none [] .lost l
  else s1

/-- The Authority Unit's step of a warm restart (R103): the claim queue is emptied; a holder becomes none with the
epoch raised and an AUTHORITY record of cause RESTART, and no notice. -/
def State.clearAuthority (s : State) : State :=
  match s.au.holder with
  | none => { s with au := { s.au with claims := [] } }
  | some h =>
    let s1 := { s with au := s.au.change none [] }
    s1.submit (some h) (.authority (some h) none s1.au.epoch .restart)

end Sys2Proof.Machine
end

