-- ==== Sys2Proof/Machine/Drive.lean ====
section
/-! DEFINITION. The Drive Unit's own operations (07_driving_the_actuation_link.md): the hand-off of a value, the
re-initialisation, dispatch, and the settling of an apply. -/

namespace Sys2Proof.Machine

/-- The drive part of a point. -/
def DriveUnit.part (d : DriveUnit) (p : Fin 64) : DrivePart := d.parts.at p

/-- The Drive Unit with a point's drive part replaced. -/
def DriveUnit.putPart (d : DriveUnit) (p : Fin 64) (x : DrivePart) : DriveUnit := { d with parts := d.parts.put p x }

/-- The point appended to the end of the apply queue, its drive part replaced by `x` with status QUEUED (R120). -/
def DriveUnit.enqueue (d : DriveUnit) (p : Fin 64) (x : DrivePart) : DriveUnit :=
  { d.putPart p { x with status := .queued } with queue := d.queue ++ [p] }

/-- The hand-off of value `v` for point `p` (Table 7.2), with the configured echo retries. -/
def DriveUnit.handOff (retries : Nat) (p : Fin 64) (v : Value) (d : DriveUnit) : DriveUnit :=
  let x := d.part p
  match x.status with
  | .faulted => d.putPart p { x with target := v }
  | .idle =>
    if v = x.target ∧ some v = x.confirmed then d
    else d.enqueue p { x with target := v, budget := retries }
  | .queued => d.putPart p { x with target := v, budget := retries }
  | .inFlight => d.putPart p { x with target := v, budget := retries }

/-- The safe value of each enabled point that is not FAULTED handed over, in ascending point order (R107 step 1). -/
def DriveUnit.handSafeValues (image : Image) (d : DriveUnit) : DriveUnit :=
  allPoints.foldl (fun d p =>
    let c := image.points.at p
    if c.enabled ∧ (d.part p).status ≠ .faulted then d.handOff image.global.echoRetries p c.safe else d) d

/-- A point's drive part after a commit or warm restart (R13, R14): the last tag is kept. -/
def reinitPart (retries : Nat) (c : PointCfg) (x : DrivePart) : DrivePart where
  target := c.safe
  confirmed := none
  status := if c.enabled then .queued else .idle
  budget := retries
  lastTag := x.lastTag

/-- The Drive Unit re-initialised against an image (R13, R14, R135): the queue and echo table are emptied, every
point's drive part is set, and the enabled points are queued in ascending order. The tag counter is kept. -/
def DriveUnit.reinit (image : Image) (d : DriveUnit) : DriveUnit where
  parts := tabulatePoints fun p => reinitPart image.global.echoRetries (image.points.at p) (d.part p)
  queue := allPoints.filter fun p => (image.points.at p).enabled
  echoes := []
  tagCounter := d.tagCounter

/-- The first tag after `t` that no entry of the echo table holds, in at most `tries` tries (R122 step 2). -/
def freeTag (echoes : List EchoEntry) : Nat → Byte → Byte
  | 0, t => t + 1
  | tries + 1, t => if echoes.any (fun e => e.tag == t + 1) then freeTag echoes tries (t + 1) else t + 1

/-- The tag the next dispatch assigns (R122 step 2): a free tag is found within 8 tries. -/
def DriveUnit.nextTag (d : DriveUnit) : Byte := freeTag d.echoes Config.echoTableMax d.tagCounter

/-- The Drive Unit's part of the dispatch of the head of the queue (R122 steps 1, 2, 4 and 5): the point leaves the
queue, takes a tag and an echo entry that runs for the echo timeout, and becomes IN_FLIGHT. -/
def DriveUnit.dispatchHead (now : Time) (echoTimeout : Nat) (p : Fin 64) (d : DriveUnit) : DriveUnit :=
  let x := d.part p
  let t := d.nextTag
  { parts := d.parts.put p { x with status := .inFlight, lastTag := t }
    queue := d.queue.tail
    echoes := d.echoes ++ [⟨p, t, x.target, after now (echoTimeout * Config.unitsPerMs)⟩]
    tagCounter := t }

/-- The echo entry of a point and tag, if the table holds one (R123). -/
def DriveUnit.entryOf (d : DriveUnit) (p : Fin 64) (t : Byte) : Option EchoEntry :=
  d.echoes.find? fun e => e.point == p && e.tag == t

/-- The echo table without the entry of a point and tag (R125, R126). -/
def DriveUnit.dropEntry (d : DriveUnit) (p : Fin 64) (t : Byte) : DriveUnit :=
  { d with echoes := d.echoes.filter fun e => !(e.point == p && e.tag == t) }

/-- A confirmation (R125): the entry goes, the sent value is confirmed, and the point is IDLE when its target is that
value, else re-queued. -/
def DriveUnit.confirm (e : EchoEntry) (d : DriveUnit) : DriveUnit :=
  let d := d.dropEntry e.point e.tag
  let x := { d.part e.point with confirmed := some e.sent }
  if x.target = e.sent then d.putPart e.point { x with status := .idle } else d.enqueue e.point x

/-- A non-final failure (R127): the entry goes, the budget falls by one, the point is re-queued. -/
def DriveUnit.retry (e : EchoEntry) (d : DriveUnit) : DriveUnit :=
  let d := d.dropEntry e.point e.tag
  let x := d.part e.point
  d.enqueue e.point { x with budget := x.budget - 1 }

/-- A final failure (R129): the entry goes and the point is FAULTED; target, confirmed and budget are left. -/
def DriveUnit.fault (e : EchoEntry) (d : DriveUnit) : DriveUnit :=
  let d := d.dropEntry e.point e.tag
  d.putPart e.point { d.part e.point with status := .faulted }

/-- The clearing of a FAULTED point (R133): confirmed UNKNOWN, a fresh budget, re-queued; the target is kept. -/
def DriveUnit.clear (retries : Nat) (p : Fin 64) (d : DriveUnit) : DriveUnit :=
  d.enqueue p { d.part p with confirmed := none, budget := retries }

/-- A value handed to the Drive Unit for a point (R118). -/
def State.handOff (p : Fin 64) (v : Value) (s : State) : State :=
  { s with du := s.du.handOff s.global.echoRetries p v }

/-- The safe values handed to the Drive Unit (R107 step 1, R114 step 8). -/
def State.handSafeValues (s : State) : State := { s with du := s.du.handSafeValues s.cu.active }

/-- The point table re-initialised (R13, R14): every slot discarded, every vote and drive part set. -/
def State.reinitPoints (s : State) : State :=
  { s with ve := tabulatePoints fun _ => clearedVote, du := s.du.reinit s.cu.active }

/-- The failure of an apply (R126): non-final with budget left (R127), else final (R129), with its notices and
record. -/
def State.failApply (e : EchoEntry) (cause : ApplyCause) (readback : Option Value) (s : State) : State :=
  let budget := (s.driveOf e.point).budget
  if 1 ≤ budget then
    ({ s with du := s.du.retry e }).submit none
      (.applyFail e.point e.tag e.sent cause readback false (budget - 1))
  else
    let s1 := { s with du := s.du.fault e }
    let s2 := s1.notify s1.joined (.pointFault e.point false e.sent (some e.tag) (some cause) readback)
    s2.submit none (.applyFail e.point e.tag e.sent cause readback true 0)

/-- An ECHO that finds its entry (Table 7.3): confirmation, or failure with cause MISMATCH or REJECTED. -/
def State.settleEcho (e : EchoEntry) (status : EchoStatus) (readback : Option Value) (s : State) : State :=
  match status, readback with
  | .done, some r =>
    if agree (s.cfgOf e.point) r e.sent then { s with du := s.du.confirm e } else s.failApply e .mismatch (some r)
  | _, _ => s.failApply e .rejected none

/-- An ECHO taken by the Drive Unit (R123): it settles the apply whose entry has its point and tag, or is stray
(R128). -/
def State.takeEcho (point tag : Byte) (status : EchoStatus) (readback : Option Value) (s : State) : State :=
  match (pointOf point).bind fun p => s.du.entryOf p tag with
  | some e => s.settleEcho e status readback
  | none => s.submit none (.strayEcho point tag status readback)

/-- Whether the Drive Unit may dispatch (R121). -/
def State.mayDispatch (s : State) : Bool :=
  !s.du.queue.isEmpty && (s.link .dl).mayStart && decide (s.du.echoes.length < Config.echoTableMax)

/-- A dispatch of point `p` at the head of the queue (R122): the APPLY frame starts on DL, taking one credit. -/
def State.dispatchPoint (p : Fin 64) (s : State) : State :=
  let u := s.link .dl
  { s.putLink .dl { u with credit := u.credit - 1, sending := some (.apply p s.du.nextTag (s.driveOf p).target) } with
    du := s.du.dispatchHead s.time s.global.echoTimeout p }

/-- The dispatch of the head of the apply queue where R121's conditions hold. -/
def State.dispatchHead (s : State) : State :=
  match s.du.queue with
  | [] => s
  | p :: _ => if s.mayDispatch then s.dispatchPoint p else s

end Sys2Proof.Machine
end

