-- ==== Sys2Proof/Machine/SafeControl.lean ====
section
/-! DEFINITION. Safe Control (06_safe_condition_and_restart.md): entry to and exit from the safe condition, and the
removal of a voter from the restart collection. -/

namespace Sys2Proof.Machine

/-- The safe flag set or cleared, SAFE_N with it (R105). -/
def State.setSafe (flag : Bool) (s : State) : State :=
  { s with sc := { s.sc with flag := flag, safeN := safeLevel flag } }

/-- The SAFE notice and record for a direction (R107 steps 2 and 3, R108). -/
def State.reportSafe (direction : SafeDirection) (subject : Option Lane) (s : State) : State :=
  let n := s.memberCount
  let m := s.global.minMembers
  (s.notify s.joined (.safe direction n m)).submit subject (.safe direction n m)

/-- Entry to the safe condition (R107): the flag, SAFE_N, the safe values, the notice, the record. -/
def State.enterSafe (subject : Option Lane) (s : State) : State :=
  ((s.setSafe true).handSafeValues).reportSafe .entered subject

/-- Exit from the safe condition (R108): nothing is handed to the Drive Unit. -/
def State.exitSafe (subject : Option Lane) (s : State) : State :=
  (s.setSafe false).reportSafe .exited subject

/-- Whether the safe condition should hold in a state (R105). -/
def State.shouldBeSafe (s : State) : Bool := safeShouldHold s.cu.mode s.memberCount s.global.minMembers

/-- The re-evaluation of the safe condition (Table 6.1), for a change of this lane's state or of the mode. -/
def State.reevaluate (subject : Option Lane) (s : State) : State :=
  if s.shouldBeSafe then
    if s.sc.flag then s else s.enterSafe subject
  else if s.sc.flag then s.exitSafe subject else s

/-- A restart collection without a voter; none when its voter set becomes empty (R112). -/
def Collection.without (l : Lane) (c : Collection) : Option Collection :=
  let v := c.voters.remove l
  if v.isEmpty then none else some { c with voters := v }

/-- A voter that leaves MEMBER is removed from the restart collection (R112). -/
def State.removeVoter (l : Lane) (s : State) : State :=
  { s with sc := { s.sc with collection := s.sc.collection.bind (Collection.without l) } }

end Sys2Proof.Machine
end

