-- ==== Sys2Proof/Machine/LaneMonitor.lean ====
section
/-! DEFINITION. The Lane Monitor's own operations (04_lane_membership.md): a change of a lane's state with all its
consequences (R68, R75), the voiding of a departing lane's proposals (R34, R35), and the verdicts of a closing
(R72 to R78). -/

namespace Sys2Proof.Machine

/-- A slot without a departed lane: off its roll, its proposal withdrawn, the others in their order (R34). -/
def Slot.without (l : Lane) (x : Slot) : Slot :=
  { x with roll := x.roll.remove l, proposals := x.proposals.filter fun p => p.lane != l }

/-- The slot for N+1 when a lane departs: if its roll shrank and it is now complete, an OPEN slot becomes RIPE with
cause COMPLETE; a RIPE slot keeps its cause (Table 2.4, R35). -/
def Slot.withoutSuccessor (l : Lane) (x : Slot) : Slot :=
  let y := x.without l
  if x.roll.get l ∧ y.state = .opened ∧ y.complete then { y with state := .ripe .complete } else y

/-- A point's slots when a lane departs (R34, R35). The slot for N, complete or not, keeps its state: its closing is
an event of its own. -/
def voidSlots (l : Lane) : List Slot → List Slot
  | [] => []
  | x :: rest => x.without l :: rest.map (Slot.withoutSuccessor l)

/-- A departing lane struck from every roll and its proposals withdrawn from every open slot (R34). -/
def State.void (l : Lane) (s : State) : State :=
  { s with ve := tabulatePoints fun p => { s.voteOf p with slots := voidSlots l (s.voteOf p).slots } }

/-- A lane's entry on a change to state `new` (R68 step 1, R86): the counters and timers of the new state. -/
def LaneEntry.entered (now : Time) (hold : Nat) (new : LaneState) (cause : LaneCause) (e : LaneEntry) : LaneEntry :=
  match new with
  | .probation => { e with state := new, lastCause := cause, holdDeadline := none }
  | .member => { e with state := new, lastCause := cause, holdDeadline := none }
  | .excluded =>
    { e with
      state := new, lastCause := cause, strikes := 0, cleanRun := 0, credit := 0, beatDeadline := none
      holdDeadline := some (after now (hold * Config.unitsPerHoldStep)) }
  | .down =>
    { e with
      state := new, lastCause := cause, strikes := 0, cleanRun := 0, credit := 0, beatDeadline := none
      holdDeadline := none }
  | .absent =>
    { e with
      state := new, lastCause := cause, strikes := 0, cleanRun := 0, credit := 0, beatDeadline := none
      holdDeadline := none }

/-- Step 3 of R68: the lane's own queue emptied on entry to DOWN or EXCLUDED, the LANE notice to every lane then
PROBATION or MEMBER, and on entry to EXCLUDED the notice for the lane itself (R144). -/
def State.laneNotices (l : Lane) (old new : LaneState) (cause : LaneCause) (s : State) : State :=
  let n := Notice.lane l old new cause s.members
  match new with
  | .excluded => ((s.emptyNotices l).notify s.joined n).noticeTo l n
  | .down => (s.emptyNotices l).notify s.joined n
  | _ => s.notify s.joined n

/-- A change of one lane's state with the consequences of R68, in the order of its steps. -/
def State.changeLane (l : Lane) (new : LaneState) (cause : LaneCause) (s : State) : State :=
  let e := s.lane l
  let s1 := s.putLane l (e.entered s.time s.global.exclusionHold new cause)
  let s2 := if e.state.joined && !new.joined then s1.void l else s1
  let s3 := s2.laneNotices l e.state new cause
  let s4 := s3.submit (some l) (.lane e.state new cause e.strikes)
  let leaves := e.state == .member && new != .member
  let s5 := if leaves then s4.succeed l else s4
  let s6 := if leaves then s5.removeVoter l else s5
  s6.reevaluate (some l)

/-- A PROBATION lane returned to DOWN with cause NO_MEMBER; any other lane is left (R75). -/
def State.demoteProbation (l : Lane) (s : State) : State :=
  if s.laneState l = .probation then s.changeLane l .down .noMember else s

/-- A change of a lane's state (R68), and where it leaves no lane MEMBER, every PROBATION lane returned to DOWN in the
order A, B, C (R75). -/
def State.moveLane (l : Lane) (new : LaneState) (cause : LaneCause) (s : State) : State :=
  let s1 := s.changeLane l new cause
  if s.laneState l = .member ∧ s1.memberCount = 0 then
    ((s1.demoteProbation .a).demoteProbation .b).demoteProbation .c
  else s1

/-- The departure of a lane (R82, R85): PROBATION to DOWN, MEMBER to EXCLUDED, with one cause; any other state is
left. -/
def State.depart (l : Lane) (cause : LaneCause) (s : State) : State :=
  match s.laneState l with
  | .probation => s.moveLane l .down cause
  | .member => s.moveLane l .excluded cause
  | _ => s

/-- A strike taken by a MEMBER lane (R76): the count rises, the clean run ends, and at the strike limit the lane is
EXCLUDED with the strike's cause. -/
def State.strike (l : Lane) (cause : LaneCause) (s : State) : State :=
  let e := s.lane l
  let s1 := s.putLane l { e with strikes := e.strikes + 1, cleanRun := 0 }
  if e.strikes + 1 = s.global.strikeLimit then s1.moveLane l .excluded cause else s1

/-- A clean vote taken by a MEMBER lane (R77): at the decay interval the run restarts and one strike goes. -/
def State.cleanVote (l : Lane) (s : State) : State :=
  let e := s.lane l
  if e.cleanRun + 1 = s.global.decayInterval then
    s.putLane l { e with cleanRun := 0, strikes := e.strikes - 1 }
  else s.putLane l { e with cleanRun := e.cleanRun + 1 }

/-- A probation credit taken by a PROBATION lane (R73): at the probation length it becomes MEMBER. -/
def State.creditLane (l : Lane) (s : State) : State :=
  let e := s.lane l
  if e.credit + 1 = s.global.probationLength then
    (s.putLane l { e with credit := 0 }).moveLane l .member .probationPassed
  else s.putLane l { e with credit := e.credit + 1 }

/-- A verdict taken against the lane's state at that moment; one that does not fit has no effect (Table 4.5). The
verdicts of a closing are taken inside it (R60), so a probation credit is raised while the lane still is PROBATION:
DEDUCED, log 19, beside the last words of Table 3.10 row 1 (R65). -/
def State.takeVerdict (l : Lane) (v : Option Verdict) (s : State) : State :=
  match s.laneState l, v with
  | .member, some .strikeMiscompare => s.strike l .miscompare
  | .member, some .strikeMissed => s.strike l .missed
  | .member, some .cleanVote => s.cleanVote l
  | .probation, some .probationCredit => s.creditLane l
  | .probation, some .probationFailure => s.moveLane l .down .probationFailed
  | _, _ => s

/-- The verdicts of one closing taken lane by lane in the order A, B, C (R60). -/
def State.takeVerdicts (v : PerLane (Option Verdict)) (s : State) : State :=
  ((s.takeVerdict .a v.a).takeVerdict .b v.b).takeVerdict .c v.c

end Sys2Proof.Machine
end

