-- ==== Sys2Proof/Machine/Outcome.lean ====
section
/-! DEFINITION. What a closing decides (03_deciding_outcomes.md): the reference value, the verdicts, the outcome and
decided value, the value handed on and the lane entries, as functions of the inputs of R42 alone. -/

namespace Sys2Proof.Machine

/-- The inputs of a closing (R42). -/
structure ClosingInput where
  cfg : PointCfg
  slot : Slot
  cause : CloseCause
  lanes : PerLane LaneState
  holder : Option Lane
  safe : Bool
deriving DecidableEq, Repr

/-- What a closing decides. -/
structure Decision where
  outcome : VoteOutcome
  decided : Option Value
  withheld : Bool
  verdicts : PerLane (Option Verdict)
  entries : List Mention
  handed : Option Value
  recorded : Bool
  subject : Option Lane
deriving DecidableEq, Repr

/-- The counted proposals: those of MEMBER lanes, in arrival order (R43). -/
def ClosingInput.counted (i : ClosingInput) : List Proposal :=
  i.slot.proposals.filter fun p => i.lanes.get p.lane == .member

/-- The proposals that have a role: counted and observer (R43). -/
def ClosingInput.heard (i : ClosingInput) : List Proposal :=
  i.slot.proposals.filter fun p => (i.lanes.get p.lane).joined

/-- A proposal put in its place by value, after those of equal value that arrived before it (R44). -/
def insertByValue (p : Proposal) : List Proposal → List Proposal
  | [] => [p]
  | q :: rest => if q.value.toInt ≤ p.value.toInt then q :: insertByValue p rest else p :: q :: rest

/-- Proposals by value, lowest first, equal values in arrival order (R44). -/
def orderByValue (ps : List Proposal) : List Proposal := ps.foldl (fun sorted p => insertByValue p sorted) []

/-- The reference value: the median of three counted proposals; none with fewer (R44). -/
def referenceValue (counted : List Proposal) : Option Value :=
  match orderByValue counted with
  | [_, m, _] => some m.value
  | _ => none

/-- How many of the counted values agree with a value. -/
def agreeCount (cfg : PointCfg) (counted : List Proposal) (v : Value) : Nat :=
  (counted.filter fun p => agree cfg p.value v).length

/-- The verdict on a counted lane with value `v` (R45, R46, R47). With a reference value, at least one of the other
two agrees with it exactly when at least two of the three do, since the median agrees with itself. -/
def countedVerdict (cfg : PointCfg) (counted : List Proposal) (v : Value) : Option Verdict :=
  match referenceValue counted with
  | some m =>
    if 2 ≤ agreeCount cfg counted m then
      if agree cfg v m then some .cleanVote else some .strikeMiscompare
    else none
  | none =>
    match counted with
    | [x, y] => if agree cfg x.value y.value then some .cleanVote else none
    | _ => none

/-- Of two agreeing values the one nearer the safe value, the lower when equally near (R52). -/
def nearerSafe (safe x y : Value) : Value :=
  if distance x safe < distance y safe then x
  else if distance y safe < distance x safe then y
  else if x.toInt ≤ y.toInt then x else y

/-- The holder's counted value, where the holder is among the counted proposers (R51, R53). -/
def holderValue (counted : List Proposal) (holder : Option Lane) : Option Value :=
  match holder with
  | none => none
  | some h => (counted.find? fun p => p.lane == h).map fun p => p.value

/-- A split resolved by the holder's value, else SPLIT (Table 3.4). -/
def splitOutcome (held : Option Value) : VoteOutcome × Option Value :=
  match held with
  | some v => (.holderDecided, some v)
  | none => (.split, none)

/-- The outcome and decided value in MAJORITY mode, the quorum reached (Table 3.4, R52). -/
def majorityOutcome (cfg : PointCfg) (counted : List Proposal) (held : Option Value) : VoteOutcome × Option Value :=
  match referenceValue counted with
  | some m =>
    if agreeCount cfg counted m = 3 then (.unanimous, some m)
    else if agreeCount cfg counted m = 2 then (.majority, some m)
    else splitOutcome held
  | none =>
    match counted with
    | [x, y] => if agree cfg x.value y.value then (.agreed, some (nearerSafe cfg.safe x.value y.value)) else splitOutcome held
    | [x] => (.single, some x.value)
    | _ => splitOutcome held

/-- The outcome and decided value in AUTHORITY mode, the quorum reached (Table 3.5). -/
def authorityOutcome (cfg : PointCfg) (counted : List Proposal) (held : Option Value) : VoteOutcome × Option Value :=
  match held with
  | none => (.noAuthority, none)
  | some v =>
    if counted.all fun p => agree cfg p.value v then (.unanimous, some v) else (.holderDecided, some v)

/-- The outcome and decided value of a closing (R50, R51, R53). -/
def decideOutcome (cfg : PointCfg) (counted : List Proposal) (holder : Option Lane) : VoteOutcome × Option Value :=
  if counted.length = 0 then (.empty, none)
  else if counted.length < cfg.quorum then (.short, none)
  else
    match cfg.mode with
    | .majority => majorityOutcome cfg counted (holderValue counted holder)
    | .authority => authorityOutcome cfg counted (holderValue counted holder)

/-- The verdict on an observer with value `v` (R55). -/
def observerVerdict (cfg : PointCfg) (decided : Option Value) (v : Value) : Option Verdict :=
  decided.map fun d => if agree cfg v d then .probationCredit else .probationFailure

/-- The value of a lane's proposal in a slot, if it has one. -/
def Slot.valueOf (x : Slot) (l : Lane) : Option Value := (x.proposals.find? fun p => p.lane == l).map fun p => p.value

/-- The verdict of a closing on a lane (Table 3.1, Table 3.3, R48, R49). -/
def laneVerdict (i : ClosingInput) (decided : Option Value) (l : Lane) : Option Verdict :=
  match i.lanes.get l, i.slot.valueOf l with
  | .member, some v => countedVerdict i.cfg i.counted v
  | .member, none => if i.cause = .expired ∧ i.slot.roll.get l then some .strikeMissed else none
  | .probation, some v => observerVerdict i.cfg decided v
  | _, _ => none

/-- The mark a verdict gives (Table 3.8). -/
def markOf : Option Verdict → Mark
  | some .cleanVote => .agree
  | some .strikeMiscompare => .dissent
  | some .strikeMissed => .missed
  | some .probationCredit => .observerOk
  | some .probationFailure => .observerFail
  | none => .neutral

/-- The lane entries of a closing (R61): the lanes with a proposal in arrival order, then the missed lanes in the
order A, B, C. -/
def laneEntries (i : ClosingInput) (verdicts : PerLane (Option Verdict)) : List Mention :=
  i.heard.map (fun p => ⟨p.lane, some p.value, markOf (verdicts.get p.lane)⟩) ++
    (Lane.all.filter fun l => verdicts.get l == some .strikeMissed).map fun l => ⟨l, none, .missed⟩

/-- Whether a verdict is a strike of either cause or a probation failure (R63). -/
def Verdict.adverse : Verdict → Bool
  | .strikeMiscompare => true
  | .strikeMissed => true
  | .probationFailure => true
  | _ => false

/-- Whether a closing submits an OUTCOME record (R63, Table 3.9). -/
def recordsOutcome (outcome : VoteOutcome) (verdicts : PerLane (Option Verdict)) : Bool :=
  !((outcome == .unanimous || outcome == .agreed) && Lane.all.all fun l => !((verdicts.get l).any Verdict.adverse))

/-- The subject lane of an OUTCOME record: the first marked DISSENT, MISSED or OBSERVER_FAIL (R63). -/
def outcomeSubject (entries : List Mention) : Option Lane :=
  (entries.find? fun m => m.mark == .dissent || m.mark == .missed || m.mark == .observerFail).map fun m => m.lane

/-- The value a closing hands to the Drive Unit, if any (R56, R57, R59). -/
def handedValue (cfg : PointCfg) (decided : Option Value) (safe : Bool) : Option Value :=
  match decided with
  | some v => if safe then none else some v
  | none => if cfg.fallback = .safe ∧ safe = false then some cfg.safe else none

/-- The decision of a closing, all of it from one set of inputs (R42). -/
def decideClosing (i : ClosingInput) : Decision :=
  let od := decideOutcome i.cfg i.counted i.holder
  let verdicts := PerLane.tabulate (laneVerdict i od.2)
  let entries := laneEntries i verdicts
  { outcome := od.1
    decided := od.2
    withheld := od.2.isSome && i.safe
    verdicts := verdicts
    entries := entries
    handed := handedValue i.cfg od.2 i.safe
    recorded := recordsOutcome od.1 verdicts
    subject := outcomeSubject entries }

end Sys2Proof.Machine
end

