-- ==== Sys2Proof/Machine/Closing.lean ====
section
/-! DEFINITION. The closing of vote slots (R30, R31, R64) and the window expiry of a slot (R28). -/

namespace Sys2Proof.Machine

/-- The inputs of the closing of a slot, as they stand in a state (R42). -/
def State.closingInput (p : Fin 64) (slot : Slot) (cause : CloseCause) (s : State) : ClosingInput where
  cfg := s.cfgOf p
  slot := slot
  cause := cause
  lanes := s.lm.map LaneEntry.state
  holder := s.au.holder
  safe := s.sc.flag

/-- The report of a closing (R62, R63). -/
def closingReport (p : Fin 64) (slot : Slot) (cause : CloseCause) (d : Decision) : OutcomeReport where
  point := p
  serial := slot.serial
  cause := cause
  outcome := d.outcome
  decided := d.decided
  withheld := d.withheld
  entries := d.entries

/-- A value handed to the Drive Unit, or nothing (R59). -/
def State.handOptional (p : Fin 64) (v : Option Value) (s : State) : State :=
  match v with
  | none => s
  | some v => s.handOff p v

/-- The OUTCOME record of a closing, where it makes one (R63). -/
def State.submitOutcome (d : Decision) (r : OutcomeReport) (s : State) : State :=
  if d.recorded then s.submit d.subject (.outcome r) else s

/-- Steps 1 to 5 of a closing (R30): the slot leaves and N advances; the decision; last closing; the value, the
notices and the record (R64); then the lane consequences. `rest` is the slot list without the closed slot. -/
def State.closeSlot (p : Fin 64) (slot : Slot) (rest : List Slot) (cause : CloseCause) (s : State) : State :=
  let d := decideClosing (s.closingInput p slot cause)
  let r := closingReport p slot cause d
  let s1 := s.putVote p
    { next := (s.voteOf p).next + 1, slots := rest
      last := some ⟨slot.serial, cause, d.outcome, d.decided, d.withheld, s.time⟩ }
  let s2 := s1.handOptional p d.handed
  let s3 := s2.notify (s2.cfgOf p).notify (.outcome r)
  let s4 := s3.submitOutcome d r
  s4.takeVerdicts d.verdicts

/-- The cause with which a slot that has become the slot for N closes at once, if it does (Table 2.6). -/
def Slot.dueCause (x : Slot) : Option CloseCause :=
  match x.state with
  | .ripe c => some c
  | .opened => if x.complete then some .complete else none

/-- The closing of the slot for N and of each successor that closes at once after it (R30, R31), for at most `fuel`
slots. -/
def State.closeChain : Nat → Fin 64 → CloseCause → State → State
  | 0, _, _, s => s
  | fuel + 1, p, cause, s =>
    match (s.voteOf p).slots with
    | [] => s
    | slot :: rest =>
      let s1 := s.closeSlot p slot rest cause
      match (s1.voteOf p).slots.head?.bind Slot.dueCause with
      | some c => State.closeChain fuel p c s1
      | none => s1

/-- The closing of the slot for N of a point, with its continuation (R30, R31). -/
def State.closePoint (p : Fin 64) (cause : CloseCause) (s : State) : State :=
  s.closeChain (s.voteOf p).slots.length p cause

/-- The expiry of the slot of a serial (Table 2.5): the slot for N, OPEN, closes EXPIRED; a later slot, OPEN, becomes
RIPE with cause EXPIRED; a RIPE slot keeps its state. Nothing where the point has no such slot or its deadline has
not been reached (log 3). -/
def State.expireWindow (p : Fin 64) (serial : Serial) (s : State) : State :=
  match (s.voteOf p).slots with
  | [] => s
  | first :: rest =>
    if first.serial = serial then
      if timeReached s.time first.deadline ∧ first.state = .opened then s.closePoint p .expired else s
    else
      s.putVote p { s.voteOf p with
        slots := first :: rest.map fun x =>
          if x.serial = serial ∧ timeReached s.time x.deadline ∧ x.state = .opened then
            { x with state := .ripe .expired }
          else x }

/-- The closing of a slot for N that a departure has made complete (R35); nothing where the point has no such slot. -/
def State.closeDeparted (p : Fin 64) (s : State) : State :=
  match (s.voteOf p).slots with
  | [] => s
  | first :: _ => if first.state = .opened ∧ first.complete then s.closePoint p .complete else s

end Sys2Proof.Machine
end

