-- ==== Sys2Proof/Machine/Proposals.lean ====
section
/-! DEFINITION. PROPOSE (02_proposals_and_vote_slots.md): the frame checks, the entry results, the opening and filling
of slots. -/

namespace Sys2Proof.Machine

/-- What the owner of a request answers: the state its effects leave, the result and the reply's further fields. -/
structure Answer where
  state : State
  result : Result
  fields : ReplyFields
deriving DecidableEq, Repr

/-- A request refused with a result code alone: nothing changed. -/
def State.refuse (s : State) (r : Result) : Answer := ⟨s, r, .nothing⟩

/-- The slot an accepted entry opens (R23). -/
def newSlot (now : Time) (cfg : PointCfg) (joined : LaneSet) (l : Lane) (e : ProposeEntry) : Slot where
  serial := e.serial
  roll := cfg.electorate.inter joined
  proposals := [⟨l, e.value⟩]
  deadline := after now cfg.window
  state := .opened

/-- A slot with a proposal appended to its list (R26). -/
def Slot.store (l : Lane) (v : Value) (x : Slot) : Slot := { x with proposals := x.proposals ++ [⟨l, v⟩] }

/-- A slot for N+1 when it is found complete: OPEN becomes RIPE with cause COMPLETE, RIPE keeps its cause (Table 2.4). -/
def Slot.ripenComplete (x : Slot) : Slot :=
  if x.state = .opened ∧ x.complete then { x with state := .ripe .complete } else x

/-- The result of an entry whose serial names an existing slot, by R26: none when it is ACCEPTED. -/
def slotRefusal (l : Lane) (x : Slot) : Option EntryResult :=
  if x.roll.get l = false then some .notOnRoll
  else if x.hasProposal l then some .duplicate
  else if x.state = .ripe .expired then some .late
  else none

/-- The slots of the point replaced. -/
def State.putSlots (p : Fin 64) (slots : List Slot) (s : State) : State :=
  s.putVote p { s.voteOf p with slots := slots }

/-- The slot for N stored, and closed at once where it is complete (Table 2.4). -/
def State.settleFirst (p : Fin 64) (x : Slot) (rest : List Slot) (s : State) : State :=
  let s1 := s.putSlots p (x :: rest)
  if x.complete then s1.closePoint p .complete else s1

/-- An entry that has passed the point-level checks, by its serial distance (R22, R23, R26). -/
def State.proposeAt (p : Fin 64) (l : Lane) (e : ProposeEntry) (s : State) : EntryResult × State :=
  let d := serialDistance e.serial (s.voteOf p).next
  let fresh := newSlot s.time (s.cfgOf p) s.joined l e
  if 32768 ≤ d then (.stale, s)
  else if 2 ≤ d then (.ahead, s)
  else if d = 0 then
    match (s.voteOf p).slots with
    | [] => (.accepted, s.settleFirst p fresh [])
    | x :: rest =>
      match slotRefusal l x with
      | some r => (r, s)
      | none => (.accepted, s.settleFirst p (x.store l e.value) rest)
  else
    match (s.voteOf p).slots with
    | [] => (.ahead, s)
    | [x] => (.accepted, s.putSlots p [x, fresh.ripenComplete])
    | x :: y :: rest =>
      match slotRefusal l y with
      | some r => (r, s)
      | none => (.accepted, s.putSlots p (x :: (y.store l e.value).ripenComplete :: rest))

/-- One entry of an accepted PROPOSE frame: the checks of Table 2.2 in their order. -/
def State.proposeEntry (l : Lane) (e : ProposeEntry) (s : State) : EntryResult × State :=
  if (s.laneState l).joined = false then (.notMember, s)
  else
    match pointOf e.point with
    | none => (.pointDisabled, s)
    | some p =>
      let c := s.cfgOf p
      if c.enabled = false then (.pointDisabled, s)
      else if c.electorate.get l = false then (.notElector, s)
      else if inDomain c e.value = false then (.outOfRange, s)
      else s.proposeAt p l e

/-- The entries of a frame, one at a time, each complete before the next (R19, R20). -/
def State.proposeEntries (l : Lane) : List ProposeEntry → State → List EntryResult × State
  | [], s => ([], s)
  | e :: rest, s =>
    let r := s.proposeEntry l e
    let t := State.proposeEntries l rest r.2
    (r.1 :: t.1, t.2)

/-- PROPOSE from a lane (Table 2.1, checks 2 to 5). -/
def servePropose (l : Lane) (payload : List Byte) (s : State) : Answer :=
  match readPropose payload with
  | none => s.refuse .badFrame
  | some es =>
    if s.cu.mode = .config then s.refuse .wrongMode
    else if (s.laneState l).joined = false then s.refuse .notMember
    else
      let r := s.proposeEntries l es
      ⟨r.2, .ok, .entries r.1⟩

end Sys2Proof.Machine
end

