-- ==== Sys2Proof/Machine/Configuration.lean ====
section
/-! DEFINITION. Configuration sessions and STATUS as the Configuration Unit serves them
(10_configuration_sessions.md). -/

namespace Sys2Proof.Machine

/-- Whether a vote slot is open at any point (R166). -/
def State.slotOpen (s : State) : Bool := allPoints.any fun p => !(s.voteOf p).slots.isEmpty

/-- CFG_OPEN (R166). -/
def serveCfgOpen (payload : List Byte) (s : State) : Answer :=
  match readNothing payload with
  | none => s.refuse .badFrame
  | some _ =>
    match s.cu.mode with
    | .config => ⟨s, .ok, .nothing⟩
    | .operate =>
      if s.joined.isEmpty = false ∨ s.slotOpen then s.refuse .busy
      else
        let s1 := { s with cu := { s.cu with mode := .config, staging := s.cu.active } }
        ⟨s1.reevaluate none, .ok, .nothing⟩

/-- The state with the staging image replaced. -/
def State.putStaging (i : Image) (s : State) : State := { s with cu := { s.cu with staging := i } }

/-- CFG_WRITE (Table 10.3): the whole named record of the staging image is replaced, or nothing. -/
def serveCfgWrite (payload : List Byte) (s : State) : Answer :=
  match readCfgWrite payload with
  | none => s.refuse .badFrame
  | some (target, record) =>
    if s.cu.mode = .operate then s.refuse .wrongMode
    else
      match target with
      | .global =>
        match readGlobal record with
        | .error code => ⟨s, .outOfRange, .fieldCode code⟩
        | .ok g => ⟨s.putStaging { s.cu.staging with global := g }, .ok, .nothing⟩
      | .point b =>
        match pointOf b with
        | none => s.refuse .badIndex
        | some p =>
          match readPointRecord record with
          | .error code => ⟨s, .outOfRange, .fieldCode code⟩
          | .ok c =>
            ⟨s.putStaging { s.cu.staging with points := s.cu.staging.points.put p c }, .ok, .nothing⟩

/-- The image a CFG_READ names. -/
def ConfigUnit.image (u : ConfigUnit) : ImageName → Image
  | .active => u.active
  | .staging => u.staging

/-- CFG_READ (R168). For the global record the reply's index byte is a free value (log 11). -/
def serveCfgRead (payload : List Byte) (s : State) : Answer :=
  match readCfgRead payload with
  | none => s.refuse .badFrame
  | some (name, .global, index) =>
    ⟨s, .ok, .cfgRecord 0 (Config.globalIndexByte index) (.global (s.cu.image name).global)⟩
  | some (name, .point b, _) =>
    match pointOf b with
    | none => s.refuse .badIndex
    | some p => ⟨s, .ok, .cfgRecord 1 b (.point ((s.cu.image name).points.at p))⟩

/-- Whether the ranks of the fitted lanes are all different (Table 10.4, G3). -/
def ranksDistinct (g : GlobalCfg) : Bool := decide ((g.fitted.toList.map g.ranks.get).Nodup)

/-- The global checks of a commit, in order: the first item that fails (Table 10.4, G1 to G3). -/
def globalItem (g : GlobalCfg) : Option ItemCode :=
  if g.fitted.isEmpty then some .noLane
  else if g.fitted.count < g.minMembers then some .minMembers
  else if ranksDistinct g = false then some .ranks
  else none

/-- The checks of one enabled point, in order: the first item that fails (Table 10.4, P1 to P5). -/
def pointItem (fitted : LaneSet) (c : PointCfg) : Option ItemCode :=
  if c.electorate.isEmpty then some .electorateEmpty
  else if c.electorate.subset fitted = false then some .electorateUnfitted
  else if c.electorate.count < c.quorum then some .quorum
  else if c.safe.toInt < c.min.toInt ∨ c.max.toInt < c.safe.toInt then some .safeRange
  else if c.kind = .discrete ∧ (c.tolerance ≠ 0 ∨ c.min ≠ 0 ∨ c.max ≠ 1) then some .discreteForm
  else none

/-- The first point check that fails, over the enabled points in ascending order (R169). -/
def firstPointItem (i : Image) : List (Fin 64) → Option (ItemCode × Fin 64)
  | [] => none
  | p :: rest =>
    let c := i.points.at p
    if c.enabled then
      match pointItem i.global.fitted c with
      | some item => some (item, p)
      | none => firstPointItem i rest
    else firstPointItem i rest

/-- The validation of an image (R169, Table 10.4): the first item that fails, with its point for a point check. -/
def validateImage (i : Image) : Option (ItemCode × Option (Fin 64)) :=
  match globalItem i.global with
  | some item => some (item, none)
  | none => (firstPointItem i allPoints).map fun x => (x.1, some x.2)

/-- A lane set against the new fitted mask at a commit (Table 4.7): the new state and cause where it changes. -/
def commitChange (state : LaneState) (fitted : Bool) : Option (LaneState × LaneCause) :=
  match state, fitted with
  | .absent, true => some (.down, .fitted)
  | .down, false => some (.absent, .unfitted)
  | .excluded, false => some (.absent, .unfitted)
  | _, _ => none

/-- The lanes' step of a commit for one lane (R90, R144): the beat sequence becomes absent; a lane that changes has its
entry set, its notice queue emptied and a LANE record written, and no notice made. -/
def State.commitLane (l : Lane) (s : State) : State :=
  let e := { s.lane l with beatSeq := none }
  match commitChange e.state (s.global.fitted.get l) with
  | none => s.putLane l e
  | some (new, cause) =>
    ((s.putLane l (e.entered s.time s.global.exclusionHold new cause)).emptyNotices l).submit (some l)
      (.lane e.state new cause e.strikes)

/-- A commit that passes validation (R170), its steps in order. -/
def State.commit (s : State) : State :=
  let i := s.cu.staging
  let s4 := { s with
    cu := { mode := .operate, active := i, staging := i, digest := i.digest, committed := true } }
  let s5 := (((s4.reinitPoints).commitLane .a).commitLane .b).commitLane .c
  let s6 := s5.submit none (.config s.cu.digest i.digest i.global.fitted (!s.cu.committed))
  s6.reevaluate none

/-- CFG_COMMIT (R169, R170). -/
def serveCfgCommit (payload : List Byte) (s : State) : Answer :=
  match readNothing payload with
  | none => s.refuse .badFrame
  | some _ =>
    if s.cu.mode = .operate then s.refuse .wrongMode
    else
      match validateImage s.cu.staging with
      | some (item, p) => ⟨s, .invalidConfig, .invalid item p⟩
      | none => ⟨s.commit, .ok, .digest s.cu.staging.digest⟩

/-- CFG_ABORT (R171). -/
def serveCfgAbort (payload : List Byte) (s : State) : Answer :=
  match readNothing payload with
  | none => s.refuse .badFrame
  | some _ =>
    if s.cu.mode = .operate then s.refuse .wrongMode
    else if s.cu.committed = false then s.refuse .noActive
    else
      let s1 := { s with cu := { s.cu with mode := .operate, staging := s.cu.active } }
      ⟨s1.reevaluate none, .ok, .nothing⟩

/-- The contents of a STATUS reply (R173). -/
def State.statusReport (s : State) : StatusReport where
  mode := s.cu.mode
  committed := s.cu.committed
  digest := s.cu.digest
  safe := s.sc.flag
  lanes := s.lm.map LaneEntry.state
  strikes := s.lm.map LaneEntry.strikes
  holder := s.au.holder
  epoch := s.au.epoch
  journal := s.ij.state
  links := Link.all.map fun l => ⟨(s.link l).state, (s.link l).discarded, (s.link l).restarts⟩
  time := s.time

/-- A link unit with its two counts at 0 (R173). -/
def LinkUnit.countsCleared (u : LinkUnit) : LinkUnit := { u with discarded := 0, restarts := 0 }

/-- STATUS (R173): the counts are reported as they stand, and then cleared where the flag asks. -/
def serveStatus (payload : List Byte) (s : State) : Answer :=
  match readStatus payload with
  | none => s.refuse .badFrame
  | some clear =>
    ⟨if clear then { s with lu := s.lu.map LinkUnit.countsCleared } else s, .ok, .status s.statusReport⟩

end Sys2Proof.Machine
end

