-- ==== Sys2Proof/Machine/Authority.lean ====
section
/-! DEFINITION. CLAIM, YIELD and WITHDRAW as the Authority Unit serves them, and the authority check of holder-only
requests (05_command_authority.md). -/

namespace Sys2Proof.Machine

/-- The position of a lane's claim in the claim queue, 1 for the head. -/
def claimPosition (claims : List Lane) (l : Lane) : Nat := claims.idxOf l + 1

/-- CLAIM from a lane (Table 5.2, checks 2 to 8). -/
def serveClaim (l : Lane) (payload : List Byte) (s : State) : Answer :=
  match readNothing payload with
  | none => s.refuse .badFrame
  | some _ =>
    if s.cu.mode = .config then s.refuse .wrongMode
    else if s.laneState l ≠ .member then s.refuse .notMember
    else
      match s.au.holder with
      | none =>
        let s1 := s.changeHolder (some l) s.au.claims .claimed l
        ⟨s1, .granted, .epoch s1.au.epoch⟩
      | some h =>
        if h = l then ⟨s, .alreadyHolder, .epoch s.au.epoch⟩
        else if l ∈ s.au.claims then ⟨s, .duplicate, .position (claimPosition s.au.claims l)⟩
        else
          let q := s.au.claims ++ [l]
          ⟨{ s with au := { s.au with claims := q } }, .queued, .position q.length⟩

/-- YIELD from a lane (R97, checks 2 to 4, and the hand-over). -/
def serveYield (l : Lane) (payload : List Byte) (s : State) : Answer :=
  match readEpoch payload with
  | none => s.refuse .badFrame
  | some epoch =>
    if s.au.holder ≠ some l then s.refuse .notHolder
    else if epoch ≠ s.au.epoch then s.refuse .staleEpoch
    else
      let s1 := s.changeHolder s.au.claims.head? s.au.claims.tail .yielded l
      ⟨s1, .ok, .yielded s1.au.epoch s1.au.holder⟩

/-- WITHDRAW from a lane (R98). -/
def serveWithdraw (l : Lane) (payload : List Byte) (s : State) : Answer :=
  match readNothing payload with
  | none => s.refuse .badFrame
  | some _ =>
    if l ∈ s.au.claims then ⟨{ s with au := s.au.dropClaim l }, .ok, .nothing⟩ else s.refuse .notQueued

/-- The authority check of a holder-only request (Table 5.4): the refusal, if any. On the maintenance link it is not
made. -/
def State.authorityRefusal (link : ReqLink) (epoch : Serial) (s : State) : Option Result :=
  match link with
  | .ml => none
  | .lane l =>
    if s.au.holder ≠ some l then some .notHolder
    else if epoch ≠ s.au.epoch then some .staleEpoch
    else none

/-- The lane that sent a request; none for the maintenance link. -/
def senderOf : ReqLink → Option Lane
  | .lane l => some l
  | .ml => none

end Sys2Proof.Machine
end

