-- ==== Sys2Proof/Machine/JournalRequests.lean ====
section
/-! DEFINITION. JOURNAL_READ (R156 to R158) and JOURNAL_REARM (R159) as the Incident Journal serves them. -/

namespace Sys2Proof.Machine

/-- Where a read starts in the ring, and its GAP flag (Table 9.5): the records from the start onward. -/
def Journal.readFrom (start : Word32) (j : Journal) : Bool × List Record :=
  match j.ring with
  | [] => (false, [])
  | r :: rest =>
    let k := (start - r.seq).toNat
    if k < (r :: rest).length then (false, (r :: rest).drop k)
    else if k < 2147483648 then (false, [])
    else (true, r :: rest)

/-- The bytes of a JOURNAL_READ reply's payload before its records (Table 11.7, R187). -/
def journalFixedBytes : Nat := 22

/-- The whole records that fit, one after another, while the next fits in what is left of the payload (R157). -/
def recordsThatFit : Nat → List Record → List Record
  | _, [] => []
  | room, r :: rest =>
    if r.bytes.length ≤ room then r :: recordsThatFit (room - r.bytes.length) rest else []

/-- The contents of an OK reply to JOURNAL_READ (R157). -/
def Journal.report (start : Word32) (j : Journal) : JournalReport where
  state := j.state
  oldest := j.ring.head?.map Record.seq
  newest := j.ring.getLast?.map Record.seq
  trigger := j.trigger.map Trigger.seq
  dropped := j.dropped
  gap := (j.readFrom start).1
  records := recordsThatFit (Config.payloadMax - journalFixedBytes) (j.readFrom start).2

/-- The refusal of a lane's JOURNAL_READ (Table 9.4, checks 2 to 4), if any; none on the maintenance link. -/
def State.readRefusal (link : ReqLink) (s : State) : Option Result :=
  match link with
  | .ml => none
  | .lane l =>
    if s.ij.state ≠ .frozen then some .notFrozen
    else if s.laneState l ≠ .member then some .notMember
    else if s.ij.trigger.bind Trigger.subject = some l then some .subjectLane
    else none

/-- JOURNAL_READ (Table 9.4). -/
def serveJournalRead (link : ReqLink) (payload : List Byte) (s : State) : Answer :=
  match readStart payload with
  | none => s.refuse .badFrame
  | some start =>
    match s.readRefusal link with
    | some r => s.refuse r
    | none => ⟨s, .ok, .journal (s.ij.report start)⟩

/-- The journal's step 2 of a re-arm (R159): RECORDING, the trigger items cleared, the dropped count 0. The post
counter is kept (log 17). -/
def Journal.rearmed (j : Journal) : Journal := { j with state := .recording, trigger := none, dropped := 0 }

/-- An accepted JOURNAL_REARM (R159): re-armed, then the REARM record of what was noted before. -/
def State.rearm (subject : Option Lane) (s : State) : State :=
  ({ s with ij := s.ij.rearmed }).submit subject
    (.rearm s.ij.state (s.ij.trigger.map Trigger.seq) s.ij.dropped)

/-- JOURNAL_REARM (R159); the reply carries the sequence of the REARM record. -/
def serveJournalRearm (link : ReqLink) (payload : List Byte) (s : State) : Answer :=
  match readEpoch payload with
  | none => s.refuse .badFrame
  | some epoch =>
    match s.authorityRefusal link epoch with
    | some r => s.refuse r
    | none =>
      if s.ij.state = .recording then s.refuse .notFrozen
      else ⟨s.rearm (senderOf link), .ok, .sequence s.ij.counter⟩

end Sys2Proof.Machine
end

