-- ==== Sys2Proof/Machine/LinkUnits.lean ====
section
/-! DEFINITION. The link units' own operations (11_links_frames_and_formats.md): entry to OFF (R183), the characters
received (R174 to R181), enabling and disabling (R176), the timers, and the starting of frames (R146 to R148). -/

namespace Sys2Proof.Machine

/-- The silence timer restarted by a character received in READY or RUN (R174, R178). -/
def LinkUnit.heard (now : Time) (u : LinkUnit) : LinkUnit :=
  { u with silence := some (after now Config.silenceUnits) }

/-- A link unit on entry to OFF (R183 steps 1 to 4 and 6): the timers stopped, the frame being sent cut off, the
credit 0, every buffer freed, the reply queue emptied, the restart count raised from RUN, and the backoff timer started
where the link is enabled. -/
def LinkUnit.toOff (now : Time) (u : LinkUnit) : LinkUnit where
  state := .off
  enabled := u.enabled
  waiting := []
  credit := 0
  peerCredit := 0
  backoff := if u.enabled then some (after now Config.backoffUnits) else none
  handshake := none
  silence := none
  discarded := u.discarded
  restarts := if u.state = .run then satInc 255 u.restarts else u.restarts
  replies := []
  sending := none

/-- The Lane Monitor told that a lane link has left RUN (R85); DL and ML have no lane. -/
def State.linkLost (l : Link) (s : State) : State :=
  match l.lane? with
  | some n => s.depart n .linkLost
  | none => s

/-- A link in READY or RUN enters OFF (R183): its unit's own steps, then from RUN the lane's departure, then the LINK
record. A link in OFF or WAKING is left (R178: a condition discovered there has no effect). -/
def State.linkDown (l : Link) (cause : LinkCause) (s : State) : State :=
  let u := s.link l
  if u.state.up then
    let s1 := s.putLink l (u.toOff s.time)
    let s2 := if u.state = .run then s1.linkLost l else s1
    s2.submit l.lane? (.link l u.state .off cause)
  else s

/-- A START received (R178, R179): in READY or RUN with a free buffer the silence timer restarts and the frame goes on
as `k` says; with no free buffer the link enters OFF with cause CREDIT; in OFF and WAKING it is ignored. -/
def State.withFrame (l : Link) (k : State → State) (s : State) : State :=
  let u := s.link l
  if u.state.up then
    if u.freeBuffers = 0 then s.linkDown l .credit else k (s.putLink l (u.heard s.time))
  else s

/-- The discarded-frame count of a link raised by one, stopping at 255 (R180). -/
def State.countDiscard (l : Link) (s : State) : State :=
  let u := s.link l
  s.putLink l { u with discarded := satInc 255 u.discarded }

/-- A GRANT received (R177, R178, R179). -/
def State.grantReceived (l : Link) (s : State) : State :=
  let u := s.link l
  match u.state with
  | .off => s
  | .waking => s
  | .ready => s.putLink l { u.heard s.time with state := .run, credit := 1, handshake := none }
  | .run =>
    if Config.creditMax ≤ u.credit then s.linkDown l .credit
    else s.putLink l { u.heard s.time with credit := u.credit + 1 }

/-- An IDLE received (R174, R176, R177): in WAKING the link enters READY, its handshake and silence timers start and a
GRANT goes out for each free buffer. -/
def State.idleReceived (l : Link) (s : State) : State :=
  let u := s.link l
  match u.state with
  | .off => s
  | .waking =>
    s.putLink l { u.heard s.time with
      state := .ready
      handshake := some (after s.time Config.handshakeUnits)
      peerCredit := u.freeBuffers }
  | .ready => s.putLink l (u.heard s.time)
  | .run => s.putLink l (u.heard s.time)

/-- The expiry of a link's backoff timer (R176): an enabled link in OFF enters WAKING; nothing where it is not due. -/
def State.expireBackoff (l : Link) (s : State) : State :=
  let u := s.link l
  if u.state = .off ∧ u.enabled ∧ timerDue s.time u.backoff then
    s.putLink l { u with state := .waking, backoff := none }
  else s

/-- The expiry of a link's handshake timer in READY (R177); nothing where it is not due. -/
def State.expireHandshake (l : Link) (s : State) : State :=
  if (s.link l).state = .ready ∧ timerDue s.time (s.link l).handshake then s.linkDown l .handshake else s

/-- No character received for one time unit in READY or RUN (R178); nothing where it is not due. -/
def State.expireSilence (l : Link) (s : State) : State :=
  if (s.link l).state.up ∧ timerDue s.time (s.link l).silence then s.linkDown l .silence else s

/-- A lane link enabled after a commit that makes its lane fitted (R176): its backoff timer starts. -/
def State.enableLink (n : Lane) (s : State) : State :=
  let u := s.link n.link
  if s.global.fitted.get n ∧ u.enabled = false then
    s.putLink n.link { u with
      enabled := true
      backoff := if u.state = .off then some (after s.time Config.backoffUnits) else u.backoff }
  else s

/-- A lane link disabled after a commit that makes its lane unfitted (R176): from READY or RUN it takes R183 with cause
DISABLED; from WAKING it enters OFF; in OFF its backoff timer stops. -/
def State.disableLink (n : Lane) (s : State) : State :=
  let u := s.link n.link
  if s.global.fitted.get n = false ∧ u.enabled then
    let u1 := { u with enabled := false }
    if u.state.up then (s.putLink n.link u1).linkDown n.link .disabled
    else s.putLink n.link (u1.toOff s.time)
  else s

/-- The oldest reply's frame started on a lane link or ML (R147, R148); nothing where R147's conditions do not hold. -/
def State.startReply (l : Link) (s : State) : State :=
  let u := s.link l
  match u.replies with
  | [] => s
  | r :: _ =>
    if u.mayStart then s.putLink l { u with credit := u.credit - 1, sending := some (.reply r) } else s

/-- The oldest notice's frame started on a lane link with no reply waiting (R146, R147): the notice leaves the queue and
takes the lane's notice sequence and lost count. -/
def State.startNotice (n : Lane) (s : State) : State :=
  let u := s.link n.link
  let b := s.nu.get n
  match b.queue with
  | [] => s
  | x :: rest =>
    if u.mayStart ∧ u.replies = [] then
      { s.putLink n.link { u with credit := u.credit - 1, sending := some (.notice b.seq b.lost x) } with
        nu := s.nu.set n { queue := rest, lost := 0, seq := b.seq + 1 } }
    else s

/-- What a link unit is sending between steps (Table 11.1, R182). -/
inductive Line where
  /-- OFF: nothing -/
  | silent
  /-- WAKING, READY, and RUN with no frame in progress: IDLE -/
  | idle
  /-- RUN, a frame in progress with these data characters -/
  | frame (data : List Byte)
deriving DecidableEq, Repr

/-- What a link unit is sending (Table 11.1, R182): its TX pin. -/
def LinkUnit.line (u : LinkUnit) : Line :=
  match u.state with
  | .off => .silent
  | .waking => .idle
  | .ready => .idle
  | .run =>
    match u.sending with
    | none => .idle
    | some f => .frame f.bytes

end Sys2Proof.Machine
end

