-- ==== Sys2Proof/Machine/PointRequests.lean ====
section
/-! DEFINITION. POINT_READ (R15 to R17) and POINT_CLEAR (R131, R133) as the Drive Unit serves them. -/

namespace Sys2Proof.Machine

/-- A slot as POINT_READ reports it: no proposal value is disclosed (R16, R17). -/
def Slot.report (now : Time) (x : Slot) : SlotReport where
  serial := x.serial
  state := x.state
  timeLeft := timeLeft now x.deadline
  roll := x.roll
  proposers := x.proposers

/-- The contents of an OK reply to POINT_READ (Table 1.5), all of one moment. -/
def State.pointReport (p : Fin 64) (s : State) : PointReport where
  point := p
  cfg := s.cfgOf p
  next := (s.voteOf p).next
  slots := (s.voteOf p).slots.map (Slot.report s.time)
  last := (s.voteOf p).last
  target := (s.driveOf p).target
  confirmed := (s.driveOf p).confirmed
  status := (s.driveOf p).status
  retries := (s.driveOf p).budget

/-- POINT_READ (R15). -/
def servePointRead (payload : List Byte) (s : State) : Answer :=
  match readPoint payload with
  | none => s.refuse .badFrame
  | some b =>
    match pointOf b with
    | none => s.refuse .badIndex
    | some p => ⟨s, .ok, .point (s.pointReport p)⟩

/-- An accepted POINT_CLEAR (R133): the point, the POINT_FAULT notice with the cleared flag, the APPLY_FAIL record of
cause CLEARED. -/
def State.clearPoint (p : Fin 64) (subject : Option Lane) (s : State) : State :=
  let s1 := { s with du := s.du.clear s.global.echoRetries p }
  let x := s1.driveOf p
  let s2 := s1.notify s1.joined (.pointFault p true x.target none none none)
  s2.submit subject (.applyFail p x.lastTag x.target .cleared none false x.budget)

/-- POINT_CLEAR (Table 7.4). -/
def servePointClear (link : ReqLink) (payload : List Byte) (s : State) : Answer :=
  match readPointClear payload with
  | none => s.refuse .badFrame
  | some (b, epoch) =>
    match s.authorityRefusal link epoch with
    | some r => s.refuse r
    | none =>
      match pointOf b with
      | none => s.refuse .badIndex
      | some p =>
        if (s.driveOf p).status ≠ .faulted then s.refuse .notFaulted
        else ⟨s.clearPoint p (senderOf link), .ok, .cleared p (s.driveOf p).target⟩

end Sys2Proof.Machine
end

