-- ==== Sys2Proof/Machine/Membership.lean ====
section
/-! DEFINITION. JOIN, LEAVE and BEAT as the Lane Monitor serves them (04_lane_membership.md), and the expiry of its
timers. -/

namespace Sys2Proof.Machine

/-- A deadline that lies the configured beat timeout after now (R66, R70, R79). -/
def State.beatDeadline (s : State) : Time := after s.time (s.global.beatTimeout * Config.unitsPerMs)

/-- The time units reported as remaining: at least 1 (R69, R110). -/
def remainingUnits (now deadline : Time) : Nat := max 1 (timeLeft now deadline)

/-- An accepted JOIN (R70): the entry set afresh, then MEMBER with cause FOUNDED when no lane is MEMBER, else
PROBATION with cause JOINED. -/
def State.acceptJoin (l : Lane) (s : State) : Answer :=
  let founds := s.memberCount == 0
  let s1 := s.putLane l { s.lane l with
    strikes := 0, cleanRun := 0, credit := 0, beatSeq := none, beatDeadline := some s.beatDeadline }
  if founds then ⟨s1.moveLane l .member .founded, .founded, .nothing⟩
  else ⟨s1.moveLane l .probation .joined, .probation, .nothing⟩

/-- JOIN from a lane (Table 4.4, checks 2 to 9). -/
def serveJoin (l : Lane) (payload : List Byte) (s : State) : Answer :=
  match readDigest payload with
  | none => s.refuse .badFrame
  | some digest =>
    if s.cu.mode = .config then s.refuse .wrongMode
    else
      let e := s.lane l
      match e.state with
      | .absent => s.refuse .notFitted
      | .excluded =>
        ⟨s, .excluded, .excluded (remainingUnits s.time (e.holdDeadline.getD s.time)) e.lastCause⟩
      | .probation => s.refuse .alreadyJoined
      | .member => s.refuse .alreadyJoined
      | .down =>
        if (s.link l.link).state ≠ .run then s.refuse .notPermitted
        else if digest ≠ s.cu.digest then ⟨s, .digestMismatch, .digest s.cu.digest⟩
        else s.acceptJoin l

/-- LEAVE from a lane (R84). -/
def serveLeave (l : Lane) (payload : List Byte) (s : State) : Answer :=
  match readNothing payload with
  | none => s.refuse .badFrame
  | some _ =>
    if (s.laneState l).joined then ⟨s.moveLane l .down .left, .ok, .nothing⟩ else s.refuse .notMember

/-- The effect of a BEAT on the lane (Table 4.6). Its arrival time is the arbiter time at which it is taken, for a BEAT
that waited in its receive buffer too: DEDUCED, log 21. -/
def State.takeBeat (l : Lane) (health : Health) (s : State) : State :=
  match health with
  | .ok =>
    if (s.laneState l).joined then s.putLane l { s.lane l with beatDeadline := some s.beatDeadline } else s
  | .degraded => s.depart l .selfReported

/-- The STATE reply (R80). -/
def State.stateReport (l : Lane) (gap : Bool) (s : State) : StateReport where
  mode := s.cu.mode
  safe := s.sc.flag
  own := s.laneState l
  strikes := (s.lane l).strikes
  members := s.members
  holder := s.au.holder
  epoch := s.au.epoch
  digest := s.cu.digest
  time := s.time
  gap := gap

/-- BEAT from a lane (R79 to R81): its effect, the beat sequence recorded, the STATE reply. -/
def serveBeat (l : Lane) (payload : List Byte) (s : State) : Answer :=
  match readBeat payload with
  | none => s.refuse .badFrame
  | some (q, health) =>
    let gap := beatGap (s.lane l).beatSeq q
    let s1 := s.takeBeat l health
    let s2 := s1.putLane l { s1.lane l with beatSeq := some q }
    ⟨s2, .ok, .state (s2.stateReport l gap)⟩

/-- The expiry of a lane's beat timer (R82); nothing where it is not due. -/
def State.expireBeat (l : Lane) (s : State) : State :=
  if timerDue s.time (s.lane l).beatDeadline then s.depart l .beatLost else s

/-- The expiry of a lane's hold timer (R86): EXCLUDED to DOWN with cause HOLD_ENDED; nothing where it is not due. -/
def State.expireHold (l : Lane) (s : State) : State :=
  if s.laneState l = .excluded ∧ timerDue s.time (s.lane l).holdDeadline then s.moveLane l .down .holdEnded else s

end Sys2Proof.Machine
end

