-- ==== Sys2Proof/Machine/Restart.lean ====
section
/-! DEFINITION. The voted and the maintenance restart, and the warm restart (06_safe_condition_and_restart.md). -/

namespace Sys2Proof.Machine

/-- The lanes' step of a warm restart for one lane (R89): a lane that is not ABSENT becomes DOWN, its counters 0, its
timers stopped, its beat sequence absent, its notice queue emptied (Table 8.7), with a LANE record where its state
changed. An ABSENT lane keeps its whole entry, a recorded beat sequence too: DEDUCED, log 20, since R89 leaves ABSENT
lanes unchanged where R81 and Table 4.8 make the sequence absent. -/
def State.restartLane (l : Lane) (s : State) : State :=
  let e := s.lane l
  match e.state with
  | .absent => s
  | .down => s.putLane l { e.entered s.time s.global.exclusionHold .down e.lastCause with beatSeq := none }
  | old =>
    ((s.putLane l { e.entered s.time s.global.exclusionHold .down .restart with beatSeq := none }).emptyNotices
      l).submit (some l) (.lane old .down .restart e.strikes)

/-- Step 8 of a warm restart (R114): the safe values handed, the flag set; where it was clear, a SAFE record of
direction ENTERED without a subject, and no notice. -/
def State.restartSafe (s : State) : State :=
  let s1 := (s.setSafe true).handSafeValues
  if s.sc.flag then s1 else s1.submit none (.safe .entered s1.memberCount s1.global.minMembers)

/-- A warm restart (R114, Table 6.3), its steps in order. -/
def State.warmRestart (kind : RestartKind) (voters : LaneSet) (s : State) : State :=
  let s1 := s.submit none (.restart kind voters)
  let s2 := { s1 with sc := { s1.sc with collection := none } }
  let s4 := s2.reinitPoints
  let s5 := { s4 with nu := ⟨clearedBox, clearedBox, clearedBox⟩ }
  let s6 := ((s5.restartLane .a).restartLane .b).restartLane .c
  let s7 := s6.clearAuthority
  s7.restartSafe

/-- The reply fields of PENDING and DUPLICATE (Table 6.2). -/
def State.voteFields (c : Collection) (s : State) : ReplyFields :=
  .votes c.voters.count (restartThreshold s.global.fitted) (remainingUnits s.time c.deadline)

/-- The restart collection after a lane's vote (R110): opened with this vote's deadline, or the lane added. -/
def State.collectionWith (l : Lane) (s : State) : Collection :=
  match s.sc.collection with
  | none => ⟨LaneSet.single l, after s.time Config.collectionUnits⟩
  | some c => { c with voters := c.voters.insert l }

/-- RESTART from a lane (Table 6.2, R111). -/
def serveRestart (l : Lane) (payload : List Byte) (s : State) : Answer :=
  match readNothing payload with
  | none => s.refuse .badFrame
  | some _ =>
    if s.cu.mode = .config then s.refuse .wrongMode
    else if s.laneState l ≠ .member then s.refuse .notMember
    else
      match s.sc.collection.filter fun c => c.voters.get l with
      | some c => ⟨s, .duplicate, s.voteFields c⟩
      | none =>
        let c := s.collectionWith l
        let s1 := { s with sc := { s.sc with collection := some c } }
        if restartThreshold s.global.fitted ≤ c.voters.count then
          ⟨s1.warmRestart .laneVoted c.voters, .restarted, .nothing⟩
        else ⟨s1, .pending, s1.voteFields c⟩

/-- RESTART from the maintenance link (R113). -/
def serveMaintenanceRestart (payload : List Byte) (s : State) : Answer :=
  match readNothing payload with
  | none => s.refuse .badFrame
  | some _ =>
    if s.cu.mode = .config then s.refuse .wrongMode
    else ⟨s.warmRestart .maintenance LaneSet.empty, .restarted, .nothing⟩

/-- The deadline of an open restart collection (R112): it closes, and RESTART_EXPIRED goes to its voters; nothing
where no collection is due. -/
def State.expireCollection (s : State) : State :=
  match s.sc.collection with
  | none => s
  | some c =>
    if timeReached s.time c.deadline then
      ({ s with sc := { s.sc with collection := none } }).notify c.voters
        (.restartExpired c.voters (restartThreshold s.global.fitted))
    else s

end Sys2Proof.Machine
end

