-- ==== Sys2Proof/Machine/Requests.lean ====
section
/-! DEFINITION. Requests from their frame to their reply (08_replies_and_notices.md): the kind checks (R138), the
owner of each kind (Table 8.1), the receive buffers and the reply queue (R136, R137, R179), and the end of a frame
sent (R182). -/

namespace Sys2Proof.Machine

/-- A request of a known kind handed to its owner, or NOT_PERMITTED where the link does not take it (Table 8.1). -/
def serveKind (k : ReqKind) (link : ReqLink) (payload : List Byte) (s : State) : Answer :=
  match link with
  | .lane l =>
    match k with
    | .propose => servePropose l payload s
    | .join => serveJoin l payload s
    | .leave => serveLeave l payload s
    | .beat => serveBeat l payload s
    | .claim => serveClaim l payload s
    | .yield => serveYield l payload s
    | .withdraw => serveWithdraw l payload s
    | .restart => serveRestart l payload s
    | .pointRead => servePointRead payload s
    | .pointClear => servePointClear (.lane l) payload s
    | .journalRead => serveJournalRead (.lane l) payload s
    | .journalRearm => serveJournalRearm (.lane l) payload s
    | .cfgOpen => s.refuse .notPermitted
    | .cfgWrite => s.refuse .notPermitted
    | .cfgRead => s.refuse .notPermitted
    | .cfgCommit => s.refuse .notPermitted
    | .cfgAbort => s.refuse .notPermitted
    | .status => s.refuse .notPermitted
  | .ml =>
    match k with
    | .propose => s.refuse .notPermitted
    | .join => s.refuse .notPermitted
    | .leave => s.refuse .notPermitted
    | .beat => s.refuse .notPermitted
    | .claim => s.refuse .notPermitted
    | .yield => s.refuse .notPermitted
    | .withdraw => s.refuse .notPermitted
    | .restart => serveMaintenanceRestart payload s
    | .pointRead => servePointRead payload s
    | .pointClear => servePointClear .ml payload s
    | .journalRead => serveJournalRead .ml payload s
    | .journalRearm => serveJournalRearm .ml payload s
    | .cfgOpen => serveCfgOpen payload s
    | .cfgWrite => serveCfgWrite payload s
    | .cfgRead => serveCfgRead payload s
    | .cfgCommit => serveCfgCommit payload s
    | .cfgAbort => serveCfgAbort payload s
    | .status => serveStatus payload s

/-- A request taken (R136, R138): BAD_KIND for a kind byte that is no request kind, else its owner's answer. -/
def serve (link : ReqLink) (r : Request) (s : State) : Answer :=
  match requestKind r.kind with
  | none => s.refuse .badKind
  | some k => serveKind k link r.payload s

/-- The reply of a request taken placed in its link's reply queue, its receive buffer freed and a GRANT sent for it
(R136, R137, R179). -/
def State.queueReply (link : ReqLink) (r : Request) (a : Answer) : State :=
  let u := a.state.link link.link
  a.state.putLink link.link { u with
    waiting := u.waiting.tail
    peerCredit := u.peerCredit + 1
    replies := u.replies ++ [⟨r.kind, r.tag, a.result, a.fields⟩] }

/-- The waiting requests of a link taken in order of receipt while its reply queue holds fewer than 4 replies (R137),
at most `fuel` of them. -/
def State.takeWaiting : Nat → ReqLink → State → State
  | 0, _, s => s
  | fuel + 1, link, s =>
    match (s.link link.link).waiting with
    | [] => s
    | r :: _ =>
      if (s.link link.link).replies.length < Config.replyCapacity then
        State.takeWaiting fuel link (State.queueReply link r (serve link r s))
      else s

/-- The waiting requests of a link taken as far as its reply queue allows. -/
def State.takeRequests (link : ReqLink) (s : State) : State :=
  s.takeWaiting (s.link link.link).waiting.length link

/-- A request's frame stored in a free receive buffer, one unit of the peer's credit used (R179). -/
def State.bufferRequest (link : ReqLink) (r : Request) (s : State) : State :=
  let u := s.link link.link
  s.putLink link.link { u with waiting := u.waiting ++ [r], peerCredit := u.peerCredit - 1 }

/-- A good frame received whole on a lane link or ML (R181): stored as a request and taken in its turn. -/
def State.receive (link : ReqLink) (r : Request) (s : State) : State :=
  s.withFrame link.link fun s => (s.bufferRequest link r).takeRequests link

/-- The request link of a link; none for DL. -/
def requestLink : Link → Option ReqLink
  | .la => some (.lane .a)
  | .lb => some (.lane .b)
  | .lc => some (.lane .c)
  | .dl => none
  | .ml => some .ml

/-- The END of the frame in progress sent (R137, R182): a reply leaves the reply queue, and a waiting request may then
be taken (log 10); nothing where no frame is in progress. -/
def State.endFrame (l : Link) (s : State) : State :=
  let u := s.link l
  match u.sending with
  | none => s
  | some (.reply _) =>
    let s1 := s.putLink l { u with sending := none, replies := u.replies.tail }
    match requestLink l with
    | some link => s1.takeRequests link
    | none => s1
  | some _ => s.putLink l { u with sending := none }

end Sys2Proof.Machine
end

