-- ==== Sys2Proof/Machine/ExecRequests.lean ====
section
/-! DEFINITION. The meanings of the request commands: a good frame of the command's kind received whole on its link (R136, R181). -/

namespace Sys2Proof.Machine

/-- A command's effect while RESET_N is high; while it is low every block holds its power-on state (R189). -/
def State.whenPowered (f : State → State) (s : State) : Host.Outcome State Fault Refusal :=
  .next (if s.resetN = .high then f s else s)

/-- PROPOSE (R18). -/
def execPropose (link : ReqLink) (tag : Byte) (payload : List Byte) (s : State) : Host.Outcome State Fault Refusal :=
  s.whenPowered (State.receive link ⟨ReqKind.code .propose, tag, payload⟩)

/-- JOIN (R69). -/
def execJoin (link : ReqLink) (tag : Byte) (payload : List Byte) (s : State) : Host.Outcome State Fault Refusal :=
  s.whenPowered (State.receive link ⟨ReqKind.code .join, tag, payload⟩)

/-- LEAVE (R84). -/
def execLeave (link : ReqLink) (tag : Byte) (payload : List Byte) (s : State) : Host.Outcome State Fault Refusal :=
  s.whenPowered (State.receive link ⟨ReqKind.code .leave, tag, payload⟩)

/-- BEAT (R79). -/
def execBeat (link : ReqLink) (tag : Byte) (payload : List Byte) (s : State) : Host.Outcome State Fault Refusal :=
  s.whenPowered (State.receive link ⟨ReqKind.code .beat, tag, payload⟩)

/-- CLAIM (R95). -/
def execClaim (link : ReqLink) (tag : Byte) (payload : List Byte) (s : State) : Host.Outcome State Fault Refusal :=
  s.whenPowered (State.receive link ⟨ReqKind.code .claim, tag, payload⟩)

/-- YIELD (R97). -/
def execYield (link : ReqLink) (tag : Byte) (payload : List Byte) (s : State) : Host.Outcome State Fault Refusal :=
  s.whenPowered (State.receive link ⟨ReqKind.code .yield, tag, payload⟩)

/-- WITHDRAW (R98). -/
def execWithdraw (link : ReqLink) (tag : Byte) (payload : List Byte) (s : State) : Host.Outcome State Fault Refusal :=
  s.whenPowered (State.receive link ⟨ReqKind.code .withdraw, tag, payload⟩)

/-- POINT_READ (R15). -/
def execPointRead (link : ReqLink) (tag : Byte) (payload : List Byte) (s : State) : Host.Outcome State Fault Refusal :=
  s.whenPowered (State.receive link ⟨ReqKind.code .pointRead, tag, payload⟩)

/-- POINT_CLEAR (R131). -/
def execPointClear (link : ReqLink) (tag : Byte) (payload : List Byte) (s : State) : Host.Outcome State Fault Refusal :=
  s.whenPowered (State.receive link ⟨ReqKind.code .pointClear, tag, payload⟩)

/-- JOURNAL_READ (R156). -/
def execJournalRead (link : ReqLink) (tag : Byte) (payload : List Byte) (s : State) : Host.Outcome State Fault Refusal :=
  s.whenPowered (State.receive link ⟨ReqKind.code .journalRead, tag, payload⟩)

/-- JOURNAL_REARM (R159). -/
def execJournalRearm (link : ReqLink) (tag : Byte) (payload : List Byte) (s : State) : Host.Outcome State Fault Refusal :=
  s.whenPowered (State.receive link ⟨ReqKind.code .journalRearm, tag, payload⟩)

/-- CFG_OPEN (R166). -/
def execCfgOpen (link : ReqLink) (tag : Byte) (payload : List Byte) (s : State) : Host.Outcome State Fault Refusal :=
  s.whenPowered (State.receive link ⟨ReqKind.code .cfgOpen, tag, payload⟩)

/-- CFG_WRITE (R167). -/
def execCfgWrite (link : ReqLink) (tag : Byte) (payload : List Byte) (s : State) : Host.Outcome State Fault Refusal :=
  s.whenPowered (State.receive link ⟨ReqKind.code .cfgWrite, tag, payload⟩)

/-- CFG_READ (R168). -/
def execCfgRead (link : ReqLink) (tag : Byte) (payload : List Byte) (s : State) : Host.Outcome State Fault Refusal :=
  s.whenPowered (State.receive link ⟨ReqKind.code .cfgRead, tag, payload⟩)

/-- CFG_COMMIT (R169, R170). -/
def execCfgCommit (link : ReqLink) (tag : Byte) (payload : List Byte) (s : State) : Host.Outcome State Fault Refusal :=
  s.whenPowered (State.receive link ⟨ReqKind.code .cfgCommit, tag, payload⟩)

/-- CFG_ABORT (R171). -/
def execCfgAbort (link : ReqLink) (tag : Byte) (payload : List Byte) (s : State) : Host.Outcome State Fault Refusal :=
  s.whenPowered (State.receive link ⟨ReqKind.code .cfgAbort, tag, payload⟩)

/-- STATUS (R173). -/
def execStatus (link : ReqLink) (tag : Byte) (payload : List Byte) (s : State) : Host.Outcome State Fault Refusal :=
  s.whenPowered (State.receive link ⟨ReqKind.code .status, tag, payload⟩)

/-- RESTART on a lane link (R110, R111). -/
def execRestart (lane : Lane) (tag : Byte) (payload : List Byte) (s : State) : Host.Outcome State Fault Refusal :=
  s.whenPowered (State.receive (.lane lane) ⟨ReqKind.code .restart, tag, payload⟩)

/-- RESTART on the maintenance link (R113). -/
def execMaintenanceRestart (tag : Byte) (payload : List Byte) (s : State) : Host.Outcome State Fault Refusal :=
  s.whenPowered (State.receive .ml ⟨ReqKind.code .restart, tag, payload⟩)

/-- BAD_KIND (R138): a good frame whose kind byte is no request kind. With a request kind's byte the event is another
row's and this command changes nothing (log 3). -/
def execBadKind (link : ReqLink) (kind tag : Byte) (payload : List Byte) (s : State) :
    Host.Outcome State Fault Refusal :=
  s.whenPowered fun s =>
    match requestKind kind with
    | some _ => s
    | none => s.receive link ⟨kind, tag, payload⟩

end Sys2Proof.Machine
end

