-- ==== Sys2Proof/Machine/ExecDrive.lean ====
section
/-! DEFINITION. The meanings of the drive path's commands (07_driving_the_actuation_link.md). -/

namespace Sys2Proof.Machine

/-- ECHO received whole on DL (R123, R181): a well-formed one is handed to the Drive Unit, any other is discarded and
counted. -/
def execEcho (tag : Byte) (payload : List Byte) (s : State) : Host.Outcome State Fault Refusal :=
  s.whenPowered (State.withFrame .dl fun s =>
    match readEcho payload with
    | some (point, status, readback) => s.takeEcho point tag status readback
    | none => s.countDiscard .dl)

/-- DISPATCH (R121, R122); nothing where R121's conditions do not hold (log 3). -/
def execDispatch (s : State) : Host.Outcome State Fault Refusal :=
  s.whenPowered State.dispatchHead

/-- ECHO_DEADLINE of the entry of a point and tag (R124, R126): a failure of cause TIMEOUT; nothing where the table holds no
such entry or its deadline has not been reached (R130, log 3). -/
def execEchoDeadline (point : Fin 64) (tag : Byte) (s : State) : Host.Outcome State Fault Refusal :=
  s.whenPowered fun s =>
    match s.du.entryOf point tag with
    | some e => if timeReached s.time e.deadline then s.failApply e .timeout none else s
    | none => s

end Sys2Proof.Machine
end

