-- ==== Sys2Proof/Machine/ExecLine.lean ====
section
/-! DEFINITION. The meanings of the line events: characters and bad frames received, line errors, and the enabling of lane links. -/

namespace Sys2Proof.Machine

/-- CODE_ERROR on a link (R178). -/
def execCodeError (link : Link) (s : State) : Host.Outcome State Fault Refusal :=
  s.whenPowered (State.linkDown link .code)

/-- FRAMING_ERROR on a link (R178). Where the error lies inside a frame, that frame's START came first: with no free
buffer it had already taken the link down with cause CREDIT (log 7). A second START inside a frame that holds the last
free buffer meets both the CREDIT and the FRAMING row of Table 11.2: FRAMING is the model's DESIGN CHOICE (log 22). -/
def execFramingError (link : Link) (how : FramingFault) (s : State) : Host.Outcome State Fault Refusal :=
  s.whenPowered fun s =>
    match how with
    | .characterOutsideFrame => s.linkDown link .framing
    | .startInsideFrame => s.withFrame link (State.linkDown link .framing)
    | .frameTooLong => s.withFrame link (State.linkDown link .framing)

/-- GRANT received on a link (R177, R178, R179). -/
def execGrant (link : Link) (s : State) : Host.Outcome State Fault Refusal :=
  s.whenPowered (State.grantReceived link)

/-- IDLE received on a link (R174, R176, R177). -/
def execIdleReceived (link : Link) (s : State) : Host.Outcome State Fault Refusal :=
  s.whenPowered (State.idleReceived link)

/-- A frame ended by ABANDON on a link (R181): discarded without a count, its buffer freed and granted back. -/
def execAbandon (link : Link) (s : State) : Host.Outcome State Fault Refusal :=
  s.whenPowered (State.withFrame link fun s => s)

/-- DISCARDED_FRAME: a frame received whole that R180 or R181 discards: the count rises, its buffer is freed and granted
back. Data characters of a frame that is not discarded, or more than 133 of them, are another row's event and change
nothing (log 3). -/
def execDiscardedFrame (link : Link) (data : List Byte) (s : State) : Host.Outcome State Fault Refusal :=
  s.whenPowered fun s =>
    if discards link data ∧ data.length ≤ Config.frameMax then s.withFrame link (State.countDiscard link) else s

/-- LINK_ENABLE of a lane's link (R176). -/
def execLinkEnable (lane : Lane) (s : State) : Host.Outcome State Fault Refusal :=
  s.whenPowered (State.enableLink lane)

/-- LINK_DISABLE of a lane's link (R176, R183). -/
def execLinkDisable (lane : Lane) (s : State) : Host.Outcome State Fault Refusal :=
  s.whenPowered (State.disableLink lane)

/-- START_NO_FREE_BUFFER on a link (R178): in READY or RUN with no free buffer the link enters OFF with cause CREDIT;
nothing where a buffer is free (log 3). -/
def execStartNoFreeBuffer (link : Link) (s : State) : Host.Outcome State Fault Refusal :=
  s.whenPowered fun s => if (s.link link).freeBuffers = 0 then s.linkDown link .credit else s

end Sys2Proof.Machine
end

