-- ==== Sys2Proof/Machine/ExecPins.lean ====
section
/-! DEFINITION. The meanings of the sending commands and of the RESET_N pin. -/

namespace Sys2Proof.Machine

/-- SEND_REPLY on a lane link or ML (R147, R148). -/
def execSendReply (link : ReqLink) (s : State) : Host.Outcome State Fault Refusal :=
  s.whenPowered (State.startReply link.link)

/-- SEND_NOTICE on a lane's link (R146, R147). -/
def execSendNotice (lane : Lane) (s : State) : Host.Outcome State Fault Refusal :=
  s.whenPowered (State.startNotice lane)

/-- FRAME_SENT on a link (R182). -/
def execFrameSent (link : Link) (s : State) : Host.Outcome State Fault Refusal :=
  s.whenPowered (State.endFrame link)

/-- RESET_N_ASSERT (R189): every block takes its power-on state and holds it, every link is OFF, SAFE_N is low. Nothing
where RESET_N is low already. -/
def execResetAssert (s : State) : Host.Outcome State Fault Refusal :=
  .next (if s.resetN = .high then State.held s.straps s.pending else s)

/-- RESET_N_RELEASE (R189): the straps are sampled, arbiter time starts at 0, the blocks take their power-on values and the
links are enabled. Nothing where RESET_N is high already. -/
def execResetRelease (straps : LaneSet) (s : State) : Host.Outcome State Fault Refusal :=
  .next (if s.resetN = .low then State.powerOn straps s.pending else s)

end Sys2Proof.Machine
end

