-- ==== Sys2Proof/Machine/ExecTimers.lean ====
section
/-! DEFINITION. The meanings of the due events: expiries of the part's timers, the closings that departures make due, and the tick. -/

namespace Sys2Proof.Machine

/-- WINDOW_EXPIRY of the slot of a point and serial (R28). -/
def execWindowExpiry (point : Fin 64) (serial : Serial) (s : State) : Host.Outcome State Fault Refusal :=
  s.whenPowered (State.expireWindow point serial)

/-- DEPARTURE_CLOSING at a point (R35). -/
def execDepartureClosing (point : Fin 64) (s : State) : Host.Outcome State Fault Refusal :=
  s.whenPowered (State.closeDeparted point)

/-- BEAT_TIMEOUT of a lane (R82). -/
def execBeatTimeout (lane : Lane) (s : State) : Host.Outcome State Fault Refusal :=
  s.whenPowered (State.expireBeat lane)

/-- HOLD_EXPIRY of a lane (R86). -/
def execHoldExpiry (lane : Lane) (s : State) : Host.Outcome State Fault Refusal :=
  s.whenPowered (State.expireHold lane)

/-- COLLECTION_DEADLINE (R112). -/
def execCollectionDeadline (s : State) : Host.Outcome State Fault Refusal :=
  s.whenPowered State.expireCollection

/-- BACKOFF_EXPIRY of a link (R176). -/
def execBackoffExpiry (link : Link) (s : State) : Host.Outcome State Fault Refusal :=
  s.whenPowered (State.expireBackoff link)

/-- HANDSHAKE_EXPIRY of a link (R177). -/
def execHandshakeExpiry (link : Link) (s : State) : Host.Outcome State Fault Refusal :=
  s.whenPowered (State.expireHandshake link)

/-- SILENCE_TIMEOUT of a link (R178). -/
def execSilenceTimeout (link : Link) (s : State) : Host.Outcome State Fault Refusal :=
  s.whenPowered (State.expireSilence link)

/-- TIME_UNIT_TICK (R189): arbiter time rises by one, wrapping after 4294967295. -/
def execTimeUnitTick (s : State) : Host.Outcome State Fault Refusal :=
  s.whenPowered fun s => { s with time := s.time + 1 }

end Sys2Proof.Machine
end

