-- ==== Sys2Proof/Machine/Dispatch.lean ====
section
/-! DEFINITION. One arm per command: the one place where a command meets its meaning. -/

namespace Sys2Proof.Machine

def exec (i : Instr) (s : State) : Host.Outcome State Fault Refusal :=
  match i with
  | .propose l t p => Sys2Proof.Machine.execPropose l t p s
  | .join l t p => Sys2Proof.Machine.execJoin l t p s
  | .leave l t p => Sys2Proof.Machine.execLeave l t p s
  | .beat l t p => Sys2Proof.Machine.execBeat l t p s
  | .claim l t p => Sys2Proof.Machine.execClaim l t p s
  | .yield l t p => Sys2Proof.Machine.execYield l t p s
  | .withdraw l t p => Sys2Proof.Machine.execWithdraw l t p s
  | .restart n t p => Sys2Proof.Machine.execRestart n t p s
  | .maintenanceRestart t p => Sys2Proof.Machine.execMaintenanceRestart t p s
  | .pointRead l t p => Sys2Proof.Machine.execPointRead l t p s
  | .pointClear l t p => Sys2Proof.Machine.execPointClear l t p s
  | .journalRead l t p => Sys2Proof.Machine.execJournalRead l t p s
  | .journalRearm l t p => Sys2Proof.Machine.execJournalRearm l t p s
  | .cfgOpen l t p => Sys2Proof.Machine.execCfgOpen l t p s
  | .cfgWrite l t p => Sys2Proof.Machine.execCfgWrite l t p s
  | .cfgRead l t p => Sys2Proof.Machine.execCfgRead l t p s
  | .cfgCommit l t p => Sys2Proof.Machine.execCfgCommit l t p s
  | .cfgAbort l t p => Sys2Proof.Machine.execCfgAbort l t p s
  | .status l t p => Sys2Proof.Machine.execStatus l t p s
  | .badKind l k t p => Sys2Proof.Machine.execBadKind l k t p s
  | .echo t p => Sys2Proof.Machine.execEcho t p s
  | .dispatch => Sys2Proof.Machine.execDispatch s
  | .echoDeadline q t => Sys2Proof.Machine.execEchoDeadline q t s
  | .windowExpiry q m => Sys2Proof.Machine.execWindowExpiry q m s
  | .departureClosing q => Sys2Proof.Machine.execDepartureClosing q s
  | .beatTimeout n => Sys2Proof.Machine.execBeatTimeout n s
  | .holdExpiry n => Sys2Proof.Machine.execHoldExpiry n s
  | .collectionDeadline => Sys2Proof.Machine.execCollectionDeadline s
  | .backoffExpiry l => Sys2Proof.Machine.execBackoffExpiry l s
  | .handshakeExpiry l => Sys2Proof.Machine.execHandshakeExpiry l s
  | .silenceTimeout l => Sys2Proof.Machine.execSilenceTimeout l s
  | .codeError l => Sys2Proof.Machine.execCodeError l s
  | .framingError l w => Sys2Proof.Machine.execFramingError l w s
  | .grant l => Sys2Proof.Machine.execGrant l s
  | .idleReceived l => Sys2Proof.Machine.execIdleReceived l s
  | .abandon l => Sys2Proof.Machine.execAbandon l s
  | .discardedFrame l d => Sys2Proof.Machine.execDiscardedFrame l d s
  | .linkEnable n => Sys2Proof.Machine.execLinkEnable n s
  | .linkDisable n => Sys2Proof.Machine.execLinkDisable n s
  | .sendReply l => Sys2Proof.Machine.execSendReply l s
  | .sendNotice n => Sys2Proof.Machine.execSendNotice n s
  | .frameSent l => Sys2Proof.Machine.execFrameSent l s
  | .resetAssert => Sys2Proof.Machine.execResetAssert s
  | .resetRelease f => Sys2Proof.Machine.execResetRelease f s
  | .timeUnitTick => Sys2Proof.Machine.execTimeUnitTick s
  | .startNoFreeBuffer l => Sys2Proof.Machine.execStartNoFreeBuffer l s

end Sys2Proof.Machine
end

