-- ==== Sys2Proof/WellFormed.lean ====
section
/-! DEFINITION. Which terms of `Instr` spell an event that the part can meet on its links and pins: the operand
checks that do not depend on the state. -/

namespace Sys2Proof

/-- A payload fits one frame (R180: payload length 0 to 128). -/
def payloadFits (payload : List Byte) : Bool := payload.length ≤ Config.payloadMax

/-- Well-formedness of a command. A request's payload fits a frame (R180); a BAD_KIND's kind byte is no request
kind (R138); an ECHO's payload is one LU-D hands on (R181); a DISCARDED_FRAME holds at most 133 data characters
(R178) and is discarded by R180 or R181. The commands that name a lane, link, point, slot or entry are well formed
whatever they name. -/
def Instr.wellFormed : Instr → Bool
  | .propose _ _ p => payloadFits p
  | .join _ _ p => payloadFits p
  | .leave _ _ p => payloadFits p
  | .beat _ _ p => payloadFits p
  | .claim _ _ p => payloadFits p
  | .yield _ _ p => payloadFits p
  | .withdraw _ _ p => payloadFits p
  | .restart _ _ p => payloadFits p
  | .maintenanceRestart _ p => payloadFits p
  | .pointRead _ _ p => payloadFits p
  | .pointClear _ _ p => payloadFits p
  | .journalRead _ _ p => payloadFits p
  | .journalRearm _ _ p => payloadFits p
  | .cfgOpen _ _ p => payloadFits p
  | .cfgWrite _ _ p => payloadFits p
  | .cfgRead _ _ p => payloadFits p
  | .cfgCommit _ _ p => payloadFits p
  | .cfgAbort _ _ p => payloadFits p
  | .status _ _ p => payloadFits p
  | .badKind _ k _ p => payloadFits p && (Machine.requestKind k).isNone
  | .echo _ p => Machine.echoWellFormed p
  | .dispatch => true
  | .echoDeadline _ _ => true
  | .windowExpiry _ _ => true
  | .departureClosing _ => true
  | .beatTimeout _ => true
  | .holdExpiry _ => true
  | .collectionDeadline => true
  | .backoffExpiry _ => true
  | .handshakeExpiry _ => true
  | .silenceTimeout _ => true
  | .codeError _ => true
  | .framingError _ _ => true
  | .grant _ => true
  | .idleReceived _ => true
  | .abandon _ => true
  | .discardedFrame l d => decide (d.length ≤ Config.frameMax) && Machine.discards l d
  | .linkEnable _ => true
  | .linkDisable _ => true
  | .sendReply _ => true
  | .sendNotice _ => true
  | .frameSent _ => true
  | .resetAssert => true
  | .resetRelease _ => true
  | .timeUnitTick => true
  | .startNoFreeBuffer _ => true

end Sys2Proof
end

