-- ==== Sys2Proof/Safety.lean ====
section
/-! DEFINITION. What the claims speak of: the invariants of the part's state, rule by rule, and the words in which the
effect of a request on its link is said. -/

namespace Sys2Proof.Machine

/-! ### Requests and their links -/

/-- A request that arrives on this link is taken at once (R136, R137, R178, R179): the link is in READY or RUN, no
earlier request waits in a receive buffer, and fewer than 4 replies are owed. -/
def State.TakesAtOnce (link : ReqLink) (s : State) : Prop :=
  s.resetN = .high ∧ (s.link link.link).state.up = true ∧ (s.link link.link).waiting = [] ∧
    (s.link link.link).replies.length < 4

/-- The state with all that a request taken at once does to its link (R136, R174, R178, R179): its characters restart
the silence timer, its reply joins the end of the reply queue, and the GRANT for its freed buffer gives the peer back
the credit the frame used. -/
def State.replied (link : ReqLink) (reply : Reply) (s : State) : State :=
  let u := s.link link.link
  s.putLink link.link { u with
    silence := some (s.time + 1)
    peerCredit := u.peerCredit - 1 + 1
    replies := u.replies ++ [reply] }

/-- The payload of a PROPOSE of these entries (R18, Table 11.6): their number, then each entry's point, serial and
value. -/
def proposePayload (entries : List ProposeEntry) : List Byte :=
  BitVec.ofNat 8 entries.length :: entries.flatMap fun e => e.point :: (be16 e.serial ++ be16 e.value)

/-- The state after a frame of this link that takes its buffer and gives it back within one step (R179, R180, R181). -/
def State.frameHeard (l : Link) (s : State) : State :=
  s.putLink l { s.link l with silence := some (s.time + 1) }

/-! ### The configuration (R164, R165, R169, R172) -/

/-- The field ranges of a global record that the other invariants rest on (Table 10.2). -/
def GlobalCfg.InRange (g : GlobalCfg) : Prop :=
  (1 ≤ g.minMembers ∧ g.minMembers ≤ 3) ∧ (1 ≤ g.strikeLimit ∧ g.strikeLimit ≤ 15) ∧
    (1 ≤ g.decayInterval ∧ g.decayInterval ≤ 255) ∧ (1 ≤ g.probationLength ∧ g.probationLength ≤ 255) ∧
    (1 ≤ g.beatTimeout ∧ g.beatTimeout ≤ 255) ∧ (1 ≤ g.exclusionHold ∧ g.exclusionHold ≤ 255) ∧
    (1 ≤ g.echoTimeout ∧ g.echoTimeout ≤ 255) ∧ g.echoRetries ≤ 3 ∧
    (g.ranks.a ≤ 2 ∧ g.ranks.b ≤ 2 ∧ g.ranks.c ≤ 2) ∧ g.postCount ≤ 255

/-- The field ranges of a point record (Table 1.2). -/
def PointCfg.InRange (c : PointCfg) : Prop :=
  (1 ≤ c.quorum ∧ c.quorum ≤ 3) ∧ c.tolerance ≤ 32767 ∧ (1 ≤ c.window ∧ c.window ≤ 255)

/-- The field ranges of every record of an image (R164). -/
def Image.InRange (i : Image) : Prop := i.global.InRange ∧ ∀ p, (i.points.at p).InRange

/-- The Configuration Unit's invariant (R164, R169, R172): every field is in its range; the digest is the active
image's; outside CONFIG mode an image has been committed and the staging image equals the active one; a committed
active image passes validation. -/
def ConfigUnit.Sound (u : ConfigUnit) : Prop :=
  u.active.InRange ∧ u.staging.InRange ∧ u.digest = u.active.digest ∧
    (u.mode = .operate → u.committed = true ∧ u.staging = u.active) ∧
    (u.committed = true → validateImage u.active = none)

/-! ### The links (R175 to R179, R137) -/

/-- What holds of every link unit (R137, R175, R176, R177, R179): the timers that run in each state; credit, requests,
replies and frames in progress only in the states that have them; no GRANT owed; at most 4 replies; a request waits
only while 4 replies are owed; the reply being sent is the oldest. -/
def LinkUnit.Sound (u : LinkUnit) : Prop :=
  (u.enabled = false → u.state = .off) ∧
  (u.backoff.isSome = true ↔ u.state = .off ∧ u.enabled = true) ∧
  (u.handshake.isSome = true ↔ u.state = .ready) ∧
  (u.silence.isSome = true ↔ u.state.up = true) ∧
  u.credit ≤ 4 ∧ (u.state ≠ .run → u.credit = 0 ∧ u.sending = none) ∧
  (u.state.up = true → u.peerCredit + u.waiting.length = 4) ∧
  (u.state.up = false → u.peerCredit = 0 ∧ u.waiting = [] ∧ u.replies = []) ∧
  u.replies.length ≤ 4 ∧ (u.waiting = [] ∨ u.replies.length = 4) ∧
  u.discarded ≤ 255 ∧ u.restarts ≤ 255 ∧
  ∀ r, u.sending = some (.reply r) → u.replies.head? = some r

/-- Whether a frame is an APPLY. -/
def TxFrame.isApply : TxFrame → Bool
  | .apply _ _ _ => true
  | _ => false

/-- Whether a frame is a notice. -/
def TxFrame.isNotice : TxFrame → Bool
  | .notice _ _ _ => true
  | _ => false

/-- The links' invariant: every link unit is sound; DL takes no requests, owes no replies and sends APPLY frames only;
ML sends replies only; the lane links send replies and notices only (R137, R148, R181). -/
def State.LinksSound (s : State) : Prop :=
  (∀ l, (s.link l).Sound) ∧
  (s.lu.dl.waiting = [] ∧ s.lu.dl.replies = [] ∧ ∀ f, s.lu.dl.sending = some f → f.isApply = true) ∧
  (∀ f, s.lu.ml.sending = some f → f.isApply = false ∧ f.isNotice = false) ∧
  ∀ n : Lane, ∀ f, (s.link n.link).sending = some f → f.isApply = false

/-! ### Votes (R10, R23, R24, R27, R33) -/

/-- What holds of every open slot of a point (R24, R27): its roll lies in the electorate and in the lanes PROBATION or
MEMBER; it holds at most one proposal of each lane, and only from lanes on its roll; it is complete where it is
RIPE with cause COMPLETE. -/
def Slot.Sound (electorate joined : LaneSet) (x : Slot) : Prop :=
  (∀ l, x.roll.get l = true → electorate.get l = true ∧ joined.get l = true) ∧
  (x.proposals.map Proposal.lane).Nodup ∧ (∀ q ∈ x.proposals, x.roll.get q.lane = true) ∧
  (x.state = .ripe .complete → x.complete = true)

/-- What holds of the slot list of a point with next serial `next` (R33): at most two slots, for N and N+1 in that
order; the slot for N is OPEN; the slot for N+1 is RIPE where it is complete. -/
def slotsInOrder (next : Serial) : List Slot → Prop
  | [] => True
  | [x] => x.serial = next ∧ x.state = .opened
  | [x, y] => x.serial = next ∧ x.state = .opened ∧ y.serial = next + 1 ∧ (y.state = .opened → y.complete = false)
  | _ => False

/-- The Vote Engine's invariant (R3, R24, R33): the slots of every point are in order and sound; a disabled point has
none, and in CONFIG mode no point has. -/
def State.VotesSound (s : State) : Prop :=
  ∀ p, slotsInOrder (s.voteOf p).next (s.voteOf p).slots ∧
    (∀ x ∈ (s.voteOf p).slots, x.Sound (s.cfgOf p).electorate s.joined) ∧
    ((s.cfgOf p).enabled = false ∨ s.cu.mode = .config → (s.voteOf p).slots = [])

/-! ### Lanes (R66, R67, R75) -/

/-- What holds of a lane entry (R66, R86): outside PROBATION and MEMBER the counters are 0 and the beat timer does not
run, and within them it runs; the hold timer runs exactly while the lane is EXCLUDED; the counters stay below their
limits; strikes and clean runs are a MEMBER's, credit a PROBATION lane's. -/
def LaneEntry.Sound (g : GlobalCfg) (e : LaneEntry) : Prop :=
  (e.state.joined = false → e.strikes = 0 ∧ e.cleanRun = 0 ∧ e.credit = 0) ∧
  (e.beatDeadline.isSome = true ↔ e.state.joined = true) ∧
  (e.holdDeadline.isSome = true ↔ e.state = .excluded) ∧
  e.strikes < g.strikeLimit ∧ e.cleanRun < g.decayInterval ∧ e.credit < g.probationLength ∧
  (e.state = .probation → e.strikes = 0 ∧ e.cleanRun = 0) ∧ (e.state = .member → e.credit = 0)

/-- The Lane Monitor's invariant (R66, R67, R75, R163): every entry is sound; a lane is ABSENT exactly when the active
image does not fit it; a lane PROBATION or MEMBER has its link in RUN, and the mode is then OPERATE; while no lane is
MEMBER none is PROBATION. -/
def State.LanesSound (s : State) : Prop :=
  (∀ l, (s.lane l).Sound s.global) ∧
  (∀ l, s.laneState l = .absent ↔ s.global.fitted.get l = false) ∧
  (∀ l, (s.laneState l).joined = true → (s.link l.link).state = .run ∧ s.cu.mode = .operate) ∧
  (∀ l, s.laneState l = .probation → ∃ m, s.laneState m = .member) ∧
  (∀ i ∈ [s.cu.active, s.cu.staging],
    1 ≤ i.global.strikeLimit ∧ 1 ≤ i.global.decayInterval ∧ 1 ≤ i.global.probationLength)

/-! ### Authority (R92) -/

/-- The Authority Unit's invariant (R92): the holder is a MEMBER; the claim queue holds at most one entry per lane, each
a MEMBER other than the holder; it is empty while there is no holder. -/
def State.AuthoritySound (s : State) : Prop :=
  (∀ l, s.au.holder = some l → s.laneState l = .member) ∧
  s.au.claims.Nodup ∧ (∀ l ∈ s.au.claims, s.laneState l = .member ∧ s.au.holder ≠ some l) ∧
  (s.au.holder = none → s.au.claims = [])

/-! ### The safe condition and the restart collection (R105, R110, R112) -/

/-- Safe Control's invariant (R105): the safe flag is set exactly while the mode is CONFIG or the MEMBER lanes are below
minimum members, and SAFE_N is low exactly while the flag is set. -/
def State.SafetySound (s : State) : Prop :=
  (s.sc.flag = true ↔ s.cu.mode = .config ∨ s.memberCount < s.global.minMembers) ∧
  (s.sc.safeN = .low ↔ s.sc.flag = true) ∧
  1 ≤ s.cu.active.global.minMembers ∧ 1 ≤ s.cu.staging.global.minMembers

/-- The restart collection's invariant (R110, R112): an open collection has a voter, and every voter is a MEMBER. -/
def State.CollectionSound (s : State) : Prop :=
  ∀ c, s.sc.collection = some c →
    c.voters.isEmpty = false ∧ ∀ l, c.voters.get l = true → s.laneState l = .member

/-! ### The drive (R116, R117) -/

/-- The Drive Unit's invariant (R116, R117): a point stands in the apply queue, once, exactly while it is QUEUED; the
echo table holds one entry of each point IN_FLIGHT and of no other, at most 8, their tags distinct; an enabled point
that is IDLE has its target confirmed. -/
def State.DriveSound (s : State) : Prop :=
  s.du.queue.Nodup ∧ (∀ p, p ∈ s.du.queue ↔ (s.driveOf p).status = .queued) ∧
  s.du.echoes.length ≤ 8 ∧ (s.du.echoes.map EchoEntry.point).Nodup ∧ (s.du.echoes.map EchoEntry.tag).Nodup ∧
  (∀ p, p ∈ s.du.echoes.map EchoEntry.point ↔ (s.driveOf p).status = .inFlight) ∧
  ∀ p, (s.cfgOf p).enabled = true → (s.driveOf p).status = .idle →
    (s.driveOf p).confirmed = some (s.driveOf p).target

/-! ### Notices (R143, R144) -/

/-- The Notice Unit's invariant (R143, R144): no queue holds more than 16 notices and no lost count passes 255; a lane
DOWN or ABSENT has none, with lost count 0; an EXCLUDED lane at most one, with lost count 0. -/
def State.NoticesSound (s : State) : Prop :=
  ∀ l, (s.nu.get l).queue.length ≤ 16 ∧ (s.nu.get l).lost ≤ 255 ∧
    (s.laneState l = .down ∨ s.laneState l = .absent → (s.nu.get l).queue = [] ∧ (s.nu.get l).lost = 0) ∧
    (s.laneState l = .excluded → (s.nu.get l).queue.length ≤ 1 ∧ (s.nu.get l).lost = 0)

/-! ### The journal (R152 to R155) -/

/-- Whether records carry consecutive sequences that end just before `counter` (R152). -/
def numberedUpTo (counter : Word32) : List Record → Prop
  | [] => True
  | [r] => r.seq + 1 = counter
  | r :: q :: rest => r.seq + 1 = q.seq ∧ numberedUpTo counter (q :: rest)

/-- The journal's invariant (R152 to R155): at most 256 records, numbered one after another up to the counter; trigger
items exactly in POST_TRIGGER and FROZEN, the trigger record still held there; in POST_TRIGGER records are still to be
stored, no more than keep it so; records are counted as dropped only while FROZEN. -/
def State.JournalSound (s : State) : Prop :=
  s.ij.ring.length ≤ 256 ∧ numberedUpTo s.ij.counter s.ij.ring ∧
  (s.ij.trigger.isSome = true ↔ s.ij.state ≠ .recording) ∧
  (∀ t, s.ij.trigger = some t → (s.ij.counter - 1 - t.seq).toNat < s.ij.ring.length) ∧
  (s.ij.state = .postTrigger → 1 ≤ s.ij.postCounter ∧
    ∀ t, s.ij.trigger = some t → (s.ij.counter - 1 - t.seq).toNat + s.ij.postCounter ≤ 255) ∧
  s.ij.dropped ≤ 65535 ∧ (s.ij.state ≠ .frozen → s.ij.dropped = 0) ∧
  s.cu.active.global.postCount ≤ 255 ∧ s.cu.staging.global.postCount ≤ 255

/-! ### What a lane change, a change of holder and a change of the safe condition tell -/

/-- The notice `n` is the first notice and the record of `subject` and `body` the first record that the way from `s`
to `t` makes (R68 steps 3 and 4, R141, R143, R152, R155). A lane that is PROBATION or MEMBER at the end has the notice
queued right behind those it had, or counted as lost where its queue was full; the record takes the next sequence and
is still held, or is dropped by a FROZEN journal. -/
def State.HasTold (n : Notice) (subject : Option Lane) (body : RecordBody) (s t : State) : Prop :=
  (∀ m, (t.laneState m).joined = true →
    ((s.nu.get m).queue.length < 16 → (s.nu.get m).queue ++ [n] <+: (t.nu.get m).queue) ∧
    (16 ≤ (s.nu.get m).queue.length →
      (t.nu.get m).queue = (s.nu.get m).queue ∧ min 255 ((s.nu.get m).lost + 1) ≤ (t.nu.get m).lost)) ∧
  (s.ij.state ≠ .frozen → ⟨s.ij.counter, s.time, subject, body⟩ ∈ t.ij.ring) ∧
  (s.ij.state = .frozen → t.ij.ring = s.ij.ring ∧ t.ij.counter = s.ij.counter)

/-- The way from `s` to `t` makes the notice `n`, and the record of `subject` and `body` behind `k` others (R94, R107,
R108, R141, R143, R152). A lane that is PROBATION or MEMBER at the end and had room for 4 notices has it among the new
ones in its queue; the record is held where the journal is not FROZEN at the end. -/
def State.HasReported (k : Nat) (n : Notice) (subject : Option Lane) (body : RecordBody) (s t : State) : Prop :=
  (∀ m, (t.laneState m).joined = true → (s.nu.get m).queue.length + 4 ≤ 16 →
    n ∈ (t.nu.get m).queue.drop (s.nu.get m).queue.length) ∧
  (t.ij.state ≠ .frozen → ⟨s.ij.counter + BitVec.ofNat 32 k, s.time, subject, body⟩ ∈ t.ij.ring)

/-- The way from `s` to `t` submits these records, each with its subject, in this order and no others (R152 to R155,
Table 9.6): the journal of `t` is what they make of that of `s` under the active image of `t`. Where that journal is
not FROZEN they are its last ones, numbered on from the counter of `s`; a journal FROZEN in `s` counts them all as
dropped. -/
def State.HasRecorded (made : List (Option Lane × RecordBody)) (s t : State) : Prop :=
  t.ij = (made.foldl (fun (u : State) r => u.submit r.1 r.2) { s with cu := t.cu }).ij ∧
  (t.ij.state ≠ .frozen →
    made.mapIdx (fun k r => (⟨s.ij.counter + BitVec.ofNat 32 k, s.time, r.1, r.2⟩ : Record)) <:+ t.ij.ring ∧
      t.ij.counter = s.ij.counter + BitVec.ofNat 32 made.length) ∧
  (s.ij.state = .frozen → t.ij = { s.ij with dropped := min 65535 (s.ij.dropped + made.length) })

/-! ### What a departure, a warm restart, a closing and a link error leave -/

/-- What lane `l` has lost in `t` when it has left PROBATION or MEMBER since `s` for state `new` with this cause (R34,
R68, R86, R99, R112, R144): its entry is that of the new state, it stands on no roll and has no proposal, it neither
holds nor queues for authority and votes for no restart, and of its notices the one of its own exclusion remains. -/
def State.HasLeft (l : Lane) (new : LaneState) (cause : LaneCause) (s t : State) : Prop :=
  (t.laneState l = new ∧ (t.lane l).lastCause = cause ∧ (t.lane l).strikes = 0 ∧ (t.lane l).cleanRun = 0 ∧
    (t.lane l).credit = 0 ∧ (t.lane l).beatDeadline = none ∧
    (t.lane l).holdDeadline =
      if new = .excluded then some (s.time + BitVec.ofNat 32 (s.global.exclusionHold * 100)) else none) ∧
  (∀ p, ∀ x ∈ (t.voteOf p).slots, x.roll.get l = false ∧ ∀ q ∈ x.proposals, q.lane ≠ l) ∧
  (s.laneState l = .member →
    t.au.holder ≠ some l ∧ l ∉ t.au.claims ∧ ∀ c, t.sc.collection = some c → c.voters.get l = false) ∧
  (t.nu.get l).queue =
    (if new = .excluded then [.lane l (s.laneState l) new cause (s.members.remove l)] else []) ∧
  (t.nu.get l).lost = 0 ∧ (t.nu.get l).seq = (s.nu.get l).seq

/-- Lane `l` has left PROBATION or MEMBER for state `new` with this cause between `s` and `t`, the first change of a
lane on that way: what the lane has lost, and the LANE notice and LANE record of the change (R68 steps 3 and 4). The
record's strike count holds the strike that reached the limit (R76). -/
def State.HasDeparted (l : Lane) (new : LaneState) (cause : LaneCause) (s t : State) : Prop :=
  let strikes := (s.lane l).strikes
  s.HasLeft l new cause t ∧
  s.HasTold (.lane l (s.laneState l) new cause (s.members.remove l)) (some l)
    (.lane (s.laneState l) new cause (if cause = .miscompare ∨ cause = .missed then strikes + 1 else strikes)) t

/-- What a warm restart of this kind and voter set taken in `s` leaves in `t` (R14, R89, R103, R110, R114, R149, Table
9.6): configuration, links, time and tags are kept; points, notices, lanes and authority are re-initialised; the safe
condition holds. Its records are, in this order, the RESTART record; a LANE record of each lane PROBATION, MEMBER or
EXCLUDED, with its strikes before; the AUTHORITY record where there was a holder; the SAFE record where the safe flag
was clear. -/
def State.HasRestarted (kind : RestartKind) (voters : LaneSet) (s t : State) : Prop :=
  s.HasRecorded
    ([(none, .restart kind voters)] ++
      ([Lane.a, .b, .c].filter fun l => (s.laneState l).joined || s.laneState l == .excluded).map (fun l =>
        (some l, .lane (s.laneState l) .down .restart (s.lane l).strikes)) ++
      s.au.holder.toList.map (fun h => (some h, .authority (some h) none (s.au.epoch + 1) .restart)) ++
      if s.sc.flag = true then [] else [(none, .safe .entered 0 s.global.minMembers)]) t ∧
  (t.cu = s.cu ∧ t.time = s.time ∧ t.straps = s.straps ∧ t.resetN = s.resetN ∧ t.pending = s.pending) ∧
  (∀ p, t.voteOf p = ⟨0, [], none⟩ ∧
    t.driveOf p =
      { target := (s.cfgOf p).safe
        confirmed := none
        status := if (s.cfgOf p).enabled = true then .queued else .idle
        budget := s.global.echoRetries
        lastTag := (s.driveOf p).lastTag }) ∧
  (t.du.queue = allPoints.filter (fun p => (s.cfgOf p).enabled) ∧ t.du.echoes = [] ∧
    t.du.tagCounter = s.du.tagCounter) ∧
  (∀ l, t.nu.get l = ⟨[], 0, 0⟩) ∧
  (∀ l, (s.laneState l = .absent → t.lane l = s.lane l) ∧
    (s.laneState l ≠ .absent →
      t.lane l =
        { state := .down
          strikes := 0
          cleanRun := 0
          credit := 0
          beatDeadline := none
          beatSeq := none
          holdDeadline := none
          lastCause := if s.laneState l = .down then (s.lane l).lastCause else .restart })) ∧
  t.au = ⟨none, if s.au.holder = none then s.au.epoch else s.au.epoch + 1, []⟩ ∧
  t.sc = ⟨true, .low, none⟩ ∧
  ∀ k, (t.link k).state = (s.link k).state ∧ (t.link k).credit = (s.link k).credit ∧
    (t.link k).sending = (s.link k).sending

/-- The closing of slot `x` of point `p`, the slot for N, with this cause, `rest` being the point's other slot if it
has one (R30, R42 to R64). From the lanes, the holder and the safe condition of `s` it decides the outcome and the
verdicts; N advances and last closing records it; the value goes to the drive unit (R56, R57, R59), the OUTCOME notice
to the notify set (R61, R62), the OUTCOME record to the journal (R63), and then the lanes take the verdicts in the
order A, B, C (R60, R64). `t` is what that leaves; of the other slot it has what the lanes departed by the verdicts
leave (R34). -/
def State.HasClosed (p : Fin 64) (x : Slot) (cause : CloseCause) (rest : List Slot) (s t : State) : Prop :=
  let cfg := s.cfgOf p
  let o := decideOutcome cfg (x.proposals.filter fun q => s.laneState q.lane == .member) s.au.holder
  let verdict : Lane → Option Verdict :=
    laneVerdict ⟨cfg, x, cause, s.lm.map LaneEntry.state, s.au.holder, s.sc.flag⟩ o.2
  let withheld := o.2.isSome && s.sc.flag
  let handed : Option Value :=
    if s.sc.flag = true then none
    else match o.2 with
      | some v => some v
      | none => if cfg.fallback = .safe then some cfg.safe else none
  let mark : Lane → Mark := fun l =>
    match verdict l with
    | some .cleanVote => .agree
    | some .strikeMiscompare => .dissent
    | some .strikeMissed => .missed
    | some .probationCredit => .observerOk
    | some .probationFailure => .observerFail
    | none => .neutral
  let missed : Lane → Bool := fun l =>
    cause == .expired && x.roll.get l && s.laneState l == .member && !x.hasProposal l
  let entries : List Mention :=
    (x.proposals.filter fun q => (s.laneState q.lane).joined).map (fun q => ⟨q.lane, some q.value, mark q.lane⟩) ++
      ([Lane.a, .b, .c].filter missed).map fun l => ⟨l, none, .missed⟩
  let report : OutcomeReport := ⟨p, x.serial, cause, o.1, o.2, withheld, entries⟩
  let exempt : Prop := (o.1 = .unanimous ∨ o.1 = .agreed) ∧
    ∀ l, verdict l ≠ some .strikeMiscompare ∧ verdict l ≠ some .strikeMissed ∧ verdict l ≠ some .probationFailure
  let subject : Option Lane :=
    ((entries.filter fun e => e.mark == .dissent || e.mark == .missed || e.mark == .observerFail).map Mention.lane).head?
  let last : LastClosing := ⟨x.serial, cause, o.1, o.2, withheld, s.time⟩
  let departed : Lane → Bool := fun l => (s.laneState l).joined && !(t.laneState l).joined
  (∃ told,
    let reported := ({ s.putVote p ⟨(s.voteOf p).next + 1, rest, some last⟩ with
      du := match handed with | none => s.du | some v => s.du.handOff s.global.echoRetries p v }).notify cfg.notify
        (.outcome report)
    (exempt → told = reported) ∧ (¬ exempt → told = reported.submit subject (.outcome report)) ∧
    t = ((told.takeVerdict .a (verdict .a)).takeVerdict .b (verdict .b)).takeVerdict .c (verdict .c)) ∧
  (rest.length ≤ 1 → t.voteOf p =
    { next := (s.voteOf p).next + 1
      slots := rest.map fun y => { y with
        roll := PerLane.tabulate fun l => y.roll.get l && !departed l
        proposals := y.proposals.filter fun q => !departed q.lane }
      last := some last }) ∧
  ((∀ l, verdict l = none ∨ verdict l = some .cleanVote) →
    t.du = match handed with | none => s.du | some v => s.du.handOff s.global.echoRetries p v)

/-- The closing of slot `x` of point `p` and what follows of the point's other slot (R31, Table 2.6): RIPE, it closes
with the cause it carries; OPEN and complete, it closes with cause COMPLETE; OPEN and not complete, it stays. -/
def State.HasClosedOn (p : Fin 64) (x : Slot) (cause : CloseCause) (rest : List Slot) (s t : State) : Prop :=
  ∃ u, s.HasClosed p x cause rest u ∧
    ((u.voteOf p).slots = [] → t = u) ∧
    ∀ y, (u.voteOf p).slots = [y] →
      (∀ c, y.state = .ripe c → u.HasClosed p y c [] t) ∧
      (y.state = .opened → y.complete = true → u.HasClosed p y .complete [] t) ∧
      (y.state = .opened → y.complete = false → t = u)

/-- The fields of an OUTCOME notice after its lost count, and of an OUTCOME record (Tables 11.8 and 11.9): point,
serial, closing cause, outcome, decided value, WITHHELD flag, entry count; for each entry its lane, value and mark. -/
def outcomeLayout (r : OutcomeReport) : List Byte :=
  [BitVec.ofNat 8 r.point.val] ++ be16 r.serial ++ [r.cause.code, r.outcome.code] ++ value? r.decided ++
    [flagByte r.withheld, BitVec.ofNat 8 r.entries.length] ++
    r.entries.flatMap fun e => [laneByte e.lane] ++ value? e.value ++ [e.mark.code]

/-- The conditions of Table 11.2, and the handshake expiry of R177: the commands that take link `l` down, in READY or
RUN, and the cause each gives. -/
def State.LinkFails (s : State) (l : Link) : Instr → LinkCause → Prop
  | .codeError k, .code => k = l
  | .silenceTimeout k, .silence => k = l ∧ ∃ d, (s.link l).silence = some d ∧ timeReached s.time d = true
  | .handshakeExpiry k, .handshake =>
    k = l ∧ (s.link l).state = .ready ∧ ∃ d, (s.link l).handshake = some d ∧ timeReached s.time d = true
  | .grant k, .credit => k = l ∧ (s.link l).state = .run ∧ 4 ≤ (s.link l).credit
  | .startNoFreeBuffer k, .credit => k = l ∧ 4 ≤ (s.link l).waiting.length
  | .framingError k how, .framing =>
    k = l ∧ (how = .characterOutsideFrame ∨ (s.link l).waiting.length < 4)
  | .framingError k how, .credit =>
    k = l ∧ how ≠ .characterOutsideFrame ∧ 4 ≤ (s.link l).waiting.length
  | _, _ => False

/-- A link unit after its entry to OFF from READY or RUN (R183). -/
def LinkUnit.fallen (now : Time) (u : LinkUnit) : LinkUnit where
  state := .off
  enabled := u.enabled
  waiting := []
  credit := 0
  peerCredit := 0
  backoff := if u.enabled = true then some (now + 10) else none
  handshake := none
  silence := none
  discarded := u.discarded
  restarts := if u.state = .run then min 255 (u.restarts + 1) else u.restarts
  replies := []
  sending := none

end Sys2Proof.Machine

namespace Sys2Proof

/-- The request a command carries and the link it arrives on (R136, R138); none for the commands that are no request. -/
def Instr.request? : Instr → Option (ReqLink × Machine.Request)
  | .propose l t p => some (l, ⟨0x10, t, p⟩)
  | .join l t p => some (l, ⟨0x20, t, p⟩)
  | .leave l t p => some (l, ⟨0x21, t, p⟩)
  | .beat l t p => some (l, ⟨0x22, t, p⟩)
  | .claim l t p => some (l, ⟨0x30, t, p⟩)
  | .yield l t p => some (l, ⟨0x31, t, p⟩)
  | .withdraw l t p => some (l, ⟨0x32, t, p⟩)
  | .restart n t p => some (.lane n, ⟨0x40, t, p⟩)
  | .maintenanceRestart t p => some (.ml, ⟨0x40, t, p⟩)
  | .pointRead l t p => some (l, ⟨0x50, t, p⟩)
  | .pointClear l t p => some (l, ⟨0x51, t, p⟩)
  | .journalRead l t p => some (l, ⟨0x60, t, p⟩)
  | .journalRearm l t p => some (l, ⟨0x61, t, p⟩)
  | .cfgOpen l t p => some (l, ⟨0x70, t, p⟩)
  | .cfgWrite l t p => some (l, ⟨0x71, t, p⟩)
  | .cfgRead l t p => some (l, ⟨0x72, t, p⟩)
  | .cfgCommit l t p => some (l, ⟨0x73, t, p⟩)
  | .cfgAbort l t p => some (l, ⟨0x74, t, p⟩)
  | .status l t p => some (l, ⟨0x78, t, p⟩)
  | .badKind l k t p => if (Machine.requestKind k).isNone then some (l, ⟨k, t, p⟩) else none
  | .echo _ _ => none
  | .dispatch => none
  | .echoDeadline _ _ => none
  | .windowExpiry _ _ => none
  | .departureClosing _ => none
  | .beatTimeout _ => none
  | .holdExpiry _ => none
  | .collectionDeadline => none
  | .backoffExpiry _ => none
  | .handshakeExpiry _ => none
  | .silenceTimeout _ => none
  | .codeError _ => none
  | .framingError _ _ => none
  | .grant _ => none
  | .idleReceived _ => none
  | .abandon _ => none
  | .discardedFrame _ _ => none
  | .linkEnable _ => none
  | .linkDisable _ => none
  | .sendReply _ => none
  | .sendNotice _ => none
  | .frameSent _ => none
  | .resetAssert => none
  | .resetRelease _ => none
  | .timeUnitTick => none
  | .startNoFreeBuffer _ => none

/-- Whether a command is one that can act on a request of the maintenance link or on RESET_N: a request of ML, the end
of a frame on ML (which may let a waiting request be taken, R137), or a change of RESET_N (R189). -/
def Instr.fromMaintenance (c : Instr) : Bool :=
  match c.request? with
  | some (.ml, _) => true
  | some (.lane _, _) => false
  | none => c == .frameSent .ml || c == .resetAssert || (match c with | .resetRelease _ => true | _ => false)

end Sys2Proof

namespace Sys2Proof.Machine

/-- A slot with the values of its proposals out of sight: all that POINT_READ shows of them (R17). -/
def Slot.veiled (x : Slot) : Slot := { x with proposals := x.proposals.map fun q => { q with value := 0 } }

/-- A state with the values of every open slot's proposals out of sight (R17). -/
def State.veiled (s : State) : State :=
  { s with ve := tabulatePoints fun p => { s.voteOf p with slots := (s.voteOf p).slots.map Slot.veiled } }

end Sys2Proof.Machine
end

