-- ==== Sys2Proof/Certificates/Slice0/Obligations.lean ====
section
/-! DEFINITION. The statements about the part, from the manual's numbered rules. -/

open Sys2Proof Sys2Proof.Machine

/-! ### The queue of commands, RESET_N and the clock -/

/-- One step takes the command at the front of the queue. That the part idles on an empty queue is the model's choice
(log 12). -/
def Obligations.StepRunsTheFrontCommand : Prop :=
  (∀ (c : Instr) (rest : List Instr) (s : State), s.pending = c :: rest →
    step s = exec c { s with pending := rest }) ∧
  ∀ s : State, s.pending = [] → step s = .next s

/-- No command stops the part or touches the queue of commands; RESET_N and the sampled straps change by the commands
of RESET_N alone, arbiter time by those and the tick (R189). DISPATCH where R121 does not allow one changes nothing
(log 3). -/
def Obligations.EveryCommandGoesOn : Prop :=
  (∀ (c : Instr) (s : State), ∃ t, exec c s = .next t ∧ t.pending = s.pending ∧
    (c ≠ .resetAssert → (∀ f, c ≠ .resetRelease f) →
      t.resetN = s.resetN ∧ t.straps = s.straps ∧ (c ≠ .timeUnitTick → t.time = s.time))) ∧
  ∀ s : State, s.du.queue = [] ∨ (s.link .dl).state ≠ .run ∨ (s.link .dl).credit = 0 ∨ (s.link .dl).sending ≠ none ∨
    8 ≤ s.du.echoes.length → exec .dispatch s = .next s

/-- RESET_N low gives the held state, its release the power-on state for the straps sampled, and the tick raises
arbiter time by one (R189). Two clauses are read from R189's words (log 2, the model's reading): that the held state
keeps the straps last sampled, and that other commands have no effect while RESET_N is low. -/
def Obligations.ResetPinAndClock : Prop :=
  ∀ s : State,
    (s.resetN = .high → exec .resetAssert s = .next (State.held s.straps s.pending)) ∧
    (∀ f, s.resetN = .low → exec (.resetRelease f) s = .next (State.powerOn f s.pending)) ∧
    (s.resetN = .high → exec .timeUnitTick s = .next { s with time := s.time + 1 }) ∧
    ∀ c, s.resetN = .low → (∀ f, c ≠ .resetRelease f) → exec c s = .next s

/-- The point table at power-on (R12). -/
def Obligations.PowerOnPointTable : Prop :=
  (∀ (straps : LaneSet) (q : List Instr) (p : Fin 64),
    (State.powerOn straps q).cfgOf p =
      { enabled := false
        kind := .discrete
        mode := .majority
        electorate := straps
        quorum := 1
        tolerance := 0
        min := 0
        max := 1
        safe := 0
        window := 20
        fallback := .hold
        notify := ⟨false, false, false⟩ } ∧
    (State.powerOn straps q).voteOf p = ⟨0, [], none⟩ ∧
    (State.powerOn straps q).driveOf p = ⟨0, none, .idle, 1, 0⟩ ∧
    (State.powerOn straps q).cu.mode = .config ∧ (State.powerOn straps q).sc.flag = true ∧
    (State.powerOn straps q).du.queue = []) ∧
  ∀ i : Image, i.global.fitted = ⟨false, false, false⟩ → (validateImage i).isSome = true

/-- The lane table at power-on (R87). -/
def Obligations.PowerOnLaneTable : Prop :=
  (∀ (straps : LaneSet) (q : List Instr) (l : Lane),
    (State.powerOn straps q).lane l =
      { state := if straps.get l = true then .down else .absent
        strikes := 0
        cleanRun := 0
        credit := 0
        beatDeadline := none
        beatSeq := none
        holdDeadline := none
        lastCause := .powerOn } ∧
    ((State.powerOn straps q).nu.get l).queue = [] ∧ (State.powerOn straps q).ij.ring = [] ∧
    (State.powerOn straps q).cu.mode = .config) ∧
  ∀ (l : Lane) (digest : Word32) (s : State), s.cu.mode = .config →
    serveJoin l (be32 digest) s = ⟨s, .wrongMode, .nothing⟩

/-- The other blocks at power-on, with the whole default global record of Table 10.2 and every field of every link unit,
and the part while RESET_N is low (R103, R115, R116, R149, R161, R164, R173, R176, R189). -/
def Obligations.PowerOnBlocks : Prop :=
  ∀ (straps : LaneSet) (q : List Instr),
    (State.powerOn straps q).time = 0 ∧ (State.powerOn straps q).straps = straps ∧
    (State.powerOn straps q).au = ⟨none, 0, []⟩ ∧ (State.powerOn straps q).sc = ⟨true, .low, none⟩ ∧
    (State.powerOn straps q).du.echoes = [] ∧ (State.powerOn straps q).du.tagCounter = 0 ∧
    (∀ l, (State.powerOn straps q).nu.get l = ⟨[], 0, 0⟩) ∧
    (State.powerOn straps q).ij = ⟨[], 1, .recording, none, 0, 0⟩ ∧
    (State.powerOn straps q).cu.active = (State.powerOn straps q).cu.staging ∧
    (State.powerOn straps q).global =
      { fitted := straps
        minMembers := if straps.count = 0 then 1 else min 2 straps.count
        strikeLimit := 3
        decayInterval := 64
        probationLength := 8
        beatTimeout := 20
        exclusionHold := 50
        echoTimeout := 10
        echoRetries := 1
        autoSuccession := true
        ranks := ⟨0, 1, 2⟩
        triggers :=
          { laneExcluded := true
            pointFault := true
            noDecision := false
            safeEntered := false
            authorityLost := false
            restart := false }
        postCount := 32 } ∧
    (State.powerOn straps q).cu.digest = (State.powerOn straps q).cu.active.digest ∧
    (State.powerOn straps q).cu.committed = false ∧
    (∀ l : Link, let enabled := match l.lane? with | some n => straps.get n | none => true
      (State.powerOn straps q).link l =
        { state := .off
          enabled := enabled
          waiting := []
          credit := 0
          peerCredit := 0
          backoff := if enabled = true then some 10 else none
          handshake := none
          silence := none
          discarded := 0
          restarts := 0
          replies := []
          sending := none }) ∧
    (∃ lu, State.held straps q = { State.powerOn straps q with resetN := .low, lu := lu }) ∧
    (State.held straps q).sc.safeN = .low ∧
    ∀ l : Link, ((State.held straps q).link l).state = .off ∧ ((State.held straps q).link l).line = .silent ∧
      ((State.held straps q).link l).backoff = none ∧ ((State.held straps q).link l).handshake = none ∧
      ((State.held straps q).link l).silence = none

/-- The power-on state, for every level of the straps, meets every invariant. The last clause, that State.reset is the
power-on state with all three straps high, is the model's choice of the straps (log 1, DESIGN CHOICE). -/
def Obligations.ResetMeetsTheInvariants : Prop :=
  ∀ (straps : LaneSet) (q : List Instr),
    (State.powerOn straps q).cu.Sound ∧ (State.powerOn straps q).LinksSound ∧ (State.powerOn straps q).VotesSound ∧
    (State.powerOn straps q).LanesSound ∧ (State.powerOn straps q).AuthoritySound ∧
    (State.powerOn straps q).SafetySound ∧ (State.powerOn straps q).CollectionSound ∧
    (State.powerOn straps q).DriveSound ∧ (State.powerOn straps q).NoticesSound ∧
    (State.powerOn straps q).JournalSound ∧ State.reset = State.powerOn ⟨true, true, true⟩ []

/-! ### Invariants that every step keeps -/

/-- Every step keeps the configuration sound (R164, R165, R169, R170, R171, R172). -/
def Obligations.StepsKeepTheConfigurationSound : Prop :=
  ∀ s t : State, s.cu.Sound → step s = .next t → t.cu.Sound

/-- Every step keeps the links sound (R137, R175 to R179, R183). Three clauses of LinksSound are the model's choices
and no rule's words: a request waits only while four replies are owed (log 10, DESIGN CHOICE), peerCredit and the
waiting requests make four (log 8), and the reply being sent is the head of its queue (log 9). -/
def Obligations.StepsKeepTheLinksSound : Prop :=
  ∀ s t : State, s.LinksSound → step s = .next t → t.LinksSound

/-- Every step keeps the vote slots sound and in serial order (R24, R27, R33). -/
def Obligations.StepsKeepTheVotesSound : Prop :=
  ∀ s t : State, s.VotesSound → step s = .next t → t.VotesSound

/-- Every step keeps the lane table sound (R66, R67, R75). -/
def Obligations.StepsKeepTheLanesSound : Prop :=
  ∀ s t : State, s.LanesSound → step s = .next t → t.LanesSound

/-- Every step keeps authority sound (R92). -/
def Obligations.StepsKeepAuthoritySound : Prop :=
  ∀ s t : State, s.AuthoritySound → step s = .next t → t.AuthoritySound

/-- Every step keeps the safe flag and SAFE_N as the mode and the MEMBER lanes ask (R105). -/
def Obligations.StepsKeepTheSafeConditionSound : Prop :=
  ∀ s t : State, s.SafetySound → step s = .next t → t.SafetySound

/-- Every step keeps an open restart collection's voters MEMBER lanes (R110, R112). -/
def Obligations.StepsKeepTheCollectionSound : Prop :=
  ∀ s t : State, s.CollectionSound → step s = .next t → t.CollectionSound

/-- Every step keeps the apply queue, the echo table and the drive statuses in step, and every unconfirmed target on
its way (R116, R117). -/
def Obligations.StepsKeepTheDriveSound : Prop :=
  ∀ s t : State, s.DriveSound → step s = .next t → t.DriveSound

/-- Every step keeps the notice queues within bounds and a departed lane's queue empty (R143, R144). -/
def Obligations.StepsKeepTheNoticesSound : Prop :=
  ∀ s t : State, s.NoticesSound → step s = .next t → t.NoticesSound

/-- Every step keeps the ring numbered without a hole and the trigger record held (R152 to R155). -/
def Obligations.StepsKeepTheJournalSound : Prop :=
  ∀ s t : State, s.JournalSound → step s = .next t → t.JournalSound

/-! ### Votes -/

/-- PROPOSE of one entry that every check lets through (R19 to R27): at distance 0 it opens the slot for N or joins
it, and at distance 1 it opens the slot for N+1 or joins it, which turns RIPE with cause COMPLETE where it is then
complete. The slot for N is left incomplete here; `ClosingOfTheSlotForNext` says what follows where it is complete.
Link effects: logs 6 to 8. -/
def Obligations.ProposalsAreStored : Prop :=
  ∀ (l : Lane) (tag : Byte) (p : Fin 64) (serial : Serial) (v : Value) (s : State),
    s.TakesAtOnce (.lane l) → s.cu.mode = .operate → (s.laneState l).joined = true →
    (s.cfgOf p).enabled = true → (s.cfgOf p).electorate.get l = true → inDomain (s.cfgOf p) v = true →
    let request := Instr.propose (.lane l) tag ([1, BitVec.ofNat 8 p.val] ++ be16 serial ++ be16 v)
    let roll := (s.cfgOf p).electorate.inter s.joined
    let fresh : Slot := ⟨serial, roll, [⟨l, v⟩], s.time + BitVec.ofNat 32 (s.cfgOf p).window, .opened⟩
    let ripen : Slot → Slot := fun x => if x.complete = true then { x with state := .ripe .complete } else x
    let stored : List Slot → State := fun slots =>
      (s.putVote p { s.voteOf p with slots := slots }).replied (.lane l) ⟨0x10, tag, .ok, .entries [.accepted]⟩
    (serial = (s.voteOf p).next → (s.voteOf p).slots = [] → fresh.complete = false →
      exec request s = .next (stored [fresh])) ∧
    (∀ x rest, serial = (s.voteOf p).next → (s.voteOf p).slots = x :: rest → x.state = .opened →
      x.roll.get l = true → x.hasProposal l = false →
      ({ x with proposals := x.proposals ++ [⟨l, v⟩] } : Slot).complete = false →
      exec request s = .next (stored ({ x with proposals := x.proposals ++ [⟨l, v⟩] } :: rest))) ∧
    (∀ x, serial = (s.voteOf p).next + 1 → (s.voteOf p).slots = [x] →
      exec request s = .next (stored [x, ripen fresh])) ∧
    ∀ x y, serial = (s.voteOf p).next + 1 → (s.voteOf p).slots = [x, y] → y.state = .opened →
      y.roll.get l = true → y.hasProposal l = false →
      exec request s = .next (stored [x, ripen { y with proposals := y.proposals ++ [⟨l, v⟩] }])

/-- PROPOSE of one entry that a check refuses (R19, R21, R22, R26): the entry result in the order of Table 2.2, and
nothing but the reply. Link effects: logs 6 to 8. -/
def Obligations.ProposalsAreRefused : Prop :=
  ∀ (l : Lane) (tag : Byte) (b : Byte) (serial : Serial) (v : Value) (s : State),
    s.TakesAtOnce (.lane l) → s.cu.mode = .operate → (s.laneState l).joined = true →
    let answers : EntryResult → Prop := fun r =>
      exec (.propose (.lane l) tag ([1, b] ++ be16 serial ++ be16 v)) s =
        .next (s.replied (.lane l) ⟨0x10, tag, .ok, .entries [r]⟩)
    (64 ≤ b.toNat → answers .pointDisabled) ∧
    ∀ p : Fin 64, b.toNat = p.val →
      let d := (serial - (s.voteOf p).next).toNat
      ((s.cfgOf p).enabled = false → answers .pointDisabled) ∧
      ((s.cfgOf p).enabled = true → (s.cfgOf p).electorate.get l = false → answers .notElector) ∧
      ((s.cfgOf p).enabled = true → (s.cfgOf p).electorate.get l = true → inDomain (s.cfgOf p) v = false →
        answers .outOfRange) ∧
      ((s.cfgOf p).enabled = true → (s.cfgOf p).electorate.get l = true → inDomain (s.cfgOf p) v = true →
        (32768 ≤ d → answers .stale) ∧
        (2 ≤ d → d < 32768 → answers .ahead) ∧
        (d = 1 → (s.voteOf p).slots = [] → answers .ahead) ∧
        ∀ x, (d = 0 ∧ (s.voteOf p).slots.head? = some x) ∨ (d = 1 ∧ (s.voteOf p).slots[1]? = some x) →
          (x.roll.get l = false → answers .notOnRoll) ∧
          (x.roll.get l = true → x.hasProposal l = true → answers .duplicate) ∧
          (x.roll.get l = true → x.hasProposal l = false → x.state = .ripe .expired → answers .late))

/-- The checks on a whole PROPOSE frame (Table 2.1, R18), and the reply to one that passes: one result for each entry.
The entries are taken one at a time, each complete before the next (R19, R20): a frame does what its first entry does
as a frame of its own and then, in the state that leaves, the frame of the others; once the sender has left PROBATION
and MEMBER, each entry left is NOT_MEMBER and changes nothing. Link effects: logs 6 to 8. -/
def Obligations.ProposeFrameChecks : Prop :=
  (∀ (l : Lane) (tag : Byte) (payload : List Byte) (s : State),
    let answers : ReqLink → Result → Prop := fun link r =>
      exec (.propose link tag payload) s = .next (s.replied link ⟨0x10, tag, r, .nothing⟩)
    let wellFormed : Prop := ∃ n rest, payload = n :: rest ∧ 1 ≤ n.toNat ∧ n.toNat ≤ 16 ∧ rest.length = 5 * n.toNat
    (s.TakesAtOnce .ml → answers .ml .notPermitted) ∧
    (s.TakesAtOnce (.lane l) →
      (¬ wellFormed → answers (.lane l) .badFrame) ∧
      (wellFormed → s.cu.mode = .config → answers (.lane l) .wrongMode) ∧
      (wellFormed → s.cu.mode = .operate → (s.laneState l).joined = false → answers (.lane l) .notMember) ∧
      (wellFormed → s.cu.mode = .operate → (s.laneState l).joined = true →
        ∃ t results, exec (.propose (.lane l) tag payload) s = .next t ∧
          (t.link l.link).replies = (s.link l.link).replies ++ [⟨0x10, tag, .ok, .entries results⟩] ∧
          payload.head? = some (BitVec.ofNat 8 results.length)))) ∧
  ∀ (l : Lane) (tag : Byte) (e : ProposeEntry) (es : List ProposeEntry) (s : State),
    s.TakesAtOnce (.lane l) → s.cu.mode = .operate → (s.laneState l).joined = true → es ≠ [] → es.length ≤ 15 →
    let frame : List ProposeEntry → Instr := fun list => .propose (.lane l) tag (proposePayload list)
    let answered : List EntryResult → State → State := fun results u =>
      u.replied (.lane l) ⟨0x10, tag, .ok, .entries results⟩
    ∃ u r, u.lu = s.lu ∧ exec (frame [e]) s = .next (answered [r] u) ∧
      ((u.laneState l).joined = true →
        ∃ v rs, v.lu = s.lu ∧ exec (frame es) u = .next (answered rs v) ∧
          exec (frame (e :: es)) s = .next (answered (r :: rs) v)) ∧
      ((u.laneState l).joined = false →
        exec (frame (e :: es)) s = .next (answered (r :: es.map fun _ => .notMember) u))

/-- The closing of the slot for N and of the successor that closes with it (R23, R27, R28, R30, R31, R35): by the
proposal that opens it complete (a roll of the sender alone), by the proposal that completes it, by its window's
expiry, or once a departure has completed it, whether or not the point has a slot for N+1. What each closing hands on,
and what it leaves of the other slot, is HasClosed and HasClosedOn (R42 to R64). Link effects: logs 6 to 8. Deadlines
reached: log 5. A credit of the closing is taken inside it: log 19. -/
def Obligations.ClosingOfTheSlotForNext : Prop :=
  ∀ (p : Fin 64) (s : State), s.resetN = .high →
    (∀ (l : Lane) (tag : Byte) (v : Value), s.TakesAtOnce (.lane l) → s.cu.mode = .operate →
      (s.laneState l).joined = true → (s.cfgOf p).enabled = true → (s.cfgOf p).electorate.get l = true →
      inDomain (s.cfgOf p) v = true →
      let N := (s.voteOf p).next
      let request := Instr.propose (.lane l) tag ([1, BitVec.ofNat 8 p.val] ++ be16 N ++ be16 v)
      let accepted : State → State := fun t => t.replied (.lane l) ⟨0x10, tag, .ok, .entries [.accepted]⟩
      (let fresh : Slot :=
        { serial := N
          roll := (s.cfgOf p).electorate.inter s.joined
          proposals := [⟨l, v⟩]
          deadline := s.time + BitVec.ofNat 32 (s.cfgOf p).window
          state := .opened }
       (s.voteOf p).slots = [] → fresh.complete = true →
        ∃ t, exec request s = .next (accepted t) ∧ s.HasClosed p fresh .complete [] t ∧ t.lu = s.lu) ∧
      ∀ x rest, (s.voteOf p).slots = x :: rest → rest.length ≤ 1 → x.serial = N → x.state = .opened →
        x.roll.get l = true → x.hasProposal l = false →
        let full : Slot := { x with proposals := x.proposals ++ [⟨l, v⟩] }
        full.complete = true →
        ∃ t, exec request s = .next (accepted t) ∧ s.HasClosedOn p full .complete rest t ∧ t.lu = s.lu) ∧
    ∀ x rest, (s.voteOf p).slots = x :: rest → rest.length ≤ 1 → x.state = .opened →
      (timeReached s.time x.deadline = true →
        ∃ t, exec (.windowExpiry p x.serial) s = .next t ∧ s.HasClosedOn p x .expired rest t) ∧
      (x.complete = true →
        ∃ t, exec (.departureClosing p) s = .next t ∧ s.HasClosedOn p x .complete rest t)

/-- A slot for N+1 whose window runs out turns RIPE with cause EXPIRED and stays; a RIPE slot for N+1 closes with its
own cause straight after the slot for N (R28, R30, R31, R32). Deadlines reached: log 5. A command whose event cannot
occur changes nothing: log 3. -/
def Obligations.SuccessorRipensAndFollows : Prop :=
  ∀ (p : Fin 64) (x y : Slot) (s : State), s.resetN = .high → (s.voteOf p).slots = [x, y] → x.serial ≠ y.serial →
    (y.state = .opened → timeReached s.time y.deadline = true →
      exec (.windowExpiry p y.serial) s =
        .next (s.putVote p { s.voteOf p with slots := [x, { y with state := .ripe .expired }] })) ∧
    (y.state ≠ .opened → exec (.windowExpiry p y.serial) s = .next s) ∧
    ∀ cause, y.state = .ripe cause → x.state = .opened → timeReached s.time x.deadline = true →
      ∃ t, exec (.windowExpiry p x.serial) s = .next t ∧ (t.voteOf p).next = (s.voteOf p).next + 1 + 1 ∧
        (t.voteOf p).slots = [] ∧ (t.voteOf p).last.map (fun c => (c.serial, c.cause)) = some (y.serial, cause)

/-! ### What a closing decides -/

/-- Three counted proposals in MAJORITY mode (R44, R45, R51): the reference value is their median, each lane is scored
against it as Table 3.2 says, and the outcome and decided value are those of Table 3.4. So UNANIMOUS goes with three
clean votes and MAJORITY with two clean votes and one MISCOMPARE strike (R51 note 1). Values agree as R5 says. -/
def Obligations.OutcomeFollowsTheScoring : Prop :=
  (∀ (cfg : PointCfg) (v w : Value), agree cfg v w = true ↔
    match cfg.kind with
    | .discrete => v = w
    | .level => (v.toInt - w.toInt).natAbs ≤ cfg.tolerance) ∧
  ∀ (cfg : PointCfg) (x y z : Proposal) (holder : Option Lane), cfg.mode = .majority → cfg.quorum ≤ 3 →
    let counted := [x, y, z]
    let verdicts := counted.map fun q => countedVerdict cfg counted q.value
    let values := counted.map Proposal.value
    ((decideOutcome cfg counted holder).1 = .unanimous ↔ verdicts.count (some .cleanVote) = 3) ∧
    ((decideOutcome cfg counted holder).1 = .majority ↔
      verdicts.count (some .cleanVote) = 2 ∧ verdicts.count (some .strikeMiscompare) = 1) ∧
    ∃ m ∈ values,
      2 ≤ (values.filter fun v => decide (v.toInt ≤ m.toInt)).length ∧
      2 ≤ (values.filter fun v => decide (m.toInt ≤ v.toInt)).length ∧
      let agreeing := (values.filter fun v => agree cfg v m).length
      (∀ v ∈ values, countedVerdict cfg counted v =
        if 2 ≤ agreeing then if agree cfg v m = true then some .cleanVote else some .strikeMiscompare else none) ∧
      (agreeing = 3 → decideOutcome cfg counted holder = (.unanimous, some m)) ∧
      (agreeing = 2 → decideOutcome cfg counted holder = (.majority, some m)) ∧
      (agreeing = 1 →
        (∀ q ∈ counted, holder = some q.lane → (counted.map Proposal.lane).Nodup →
          decideOutcome cfg counted holder = (.holderDecided, some q.value)) ∧
        ((∀ q ∈ counted, holder ≠ some q.lane) → decideOutcome cfg counted holder = (.split, none))) ∧
      1 ≤ agreeing

/-- A decided value is always one of the counted values (R4, R51, R53). With no counted proposal the outcome is EMPTY,
with fewer than the quorum SHORT (R50). In MAJORITY mode one counted value is SINGLE and two that disagree are the
holder's or SPLIT (Table 3.4); in AUTHORITY mode Table 3.5 holds. -/
def Obligations.DecidedValueWasCounted : Prop :=
  ∀ (cfg : PointCfg) (counted : List Proposal) (holder : Option Lane),
    let decides : VoteOutcome → Option Value → Prop := fun outcome v =>
      decideOutcome cfg counted holder = (outcome, v)
    let holderAbsent : Prop := ∀ q ∈ counted, holder ≠ some q.lane
    (∀ v, (decideOutcome cfg counted holder).2 = some v → ∃ q ∈ counted, q.value = v) ∧
    (counted = [] → decides .empty none) ∧
    (counted ≠ [] → counted.length < cfg.quorum → decides .short none) ∧
    (cfg.quorum ≤ counted.length → cfg.mode = .majority →
      (∀ x, counted = [x] → decides .single (some x.value)) ∧
      ∀ x y, counted = [x, y] → agree cfg x.value y.value = false →
        (holderAbsent → decides .split none) ∧
        (holder = some x.lane → decides .holderDecided (some x.value)) ∧
        (holder = some y.lane → x.lane ≠ y.lane → decides .holderDecided (some y.value))) ∧
    (counted ≠ [] → cfg.quorum ≤ counted.length → cfg.mode = .authority →
      (holderAbsent → decides .noAuthority none) ∧
      ∀ q ∈ counted, holder = some q.lane → (counted.map Proposal.lane).Nodup →
        ((∀ r ∈ counted, agree cfg r.value q.value = true) → decides .unanimous (some q.value)) ∧
        ((∃ r ∈ counted, agree cfg r.value q.value = false) → decides .holderDecided (some q.value)))

/-- Two counted values: agreeing, each lane gets a clean vote and in MAJORITY mode the value nearer the safe value is
decided, the lower where both are equally near; disagreeing, neither lane gets a verdict (R46, R52). -/
def Obligations.TwoCountedValues : Prop :=
  ∀ (cfg : PointCfg) (x y : Proposal) (holder : Option Lane),
    (agree cfg x.value y.value = true →
      countedVerdict cfg [x, y] x.value = some .cleanVote ∧ countedVerdict cfg [x, y] y.value = some .cleanVote) ∧
    (agree cfg x.value y.value = false →
      countedVerdict cfg [x, y] x.value = none ∧ countedVerdict cfg [x, y] y.value = none) ∧
    (agree cfg x.value y.value = true → cfg.mode = .majority → cfg.quorum ≤ 2 →
      ∃ v, decideOutcome cfg [x, y] holder = (.agreed, some v) ∧ (v = x.value ∨ v = y.value) ∧
        ∀ w, w = x.value ∨ w = y.value →
          (v.toInt - cfg.safe.toInt).natAbs ≤ (w.toInt - cfg.safe.toInt).natAbs ∧
          ((v.toInt - cfg.safe.toInt).natAbs = (w.toInt - cfg.safe.toInt).natAbs → v.toInt ≤ w.toInt))

/-- The verdict on a MEMBER lane does not depend on the point's mode, quorum, fallback, notify set or safe value, on
the holder or on the safe condition (R49). The verdict by role (R43, R47, R48, R55, Table 3.3): a counted lane's is
the scoring of the counted proposals, none for a single one; a missed lane is struck where the cause is EXPIRED; an
observer is judged against the decided value, where there is one; a silent lane and a lane that is neither PROBATION
nor MEMBER get none. -/
def Obligations.ScoringIgnoresModeAndHolder : Prop :=
  (∀ (i j : ClosingInput) (l : Lane) (d e : Option Value),
    i.slot = j.slot → i.cause = j.cause → i.lanes = j.lanes → i.cfg.kind = j.cfg.kind →
    i.cfg.tolerance = j.cfg.tolerance → i.lanes.get l = .member → laneVerdict i d l = laneVerdict j e l) ∧
  (∀ (cfg : PointCfg) (x : Proposal), countedVerdict cfg [x] x.value = none) ∧
  ∀ (i : ClosingInput) (l : Lane) (d : Option Value), (i.slot.proposals.map Proposal.lane).Nodup →
    let silent : Prop := ∀ q ∈ i.slot.proposals, q.lane ≠ l
    ((i.lanes.get l).joined = false → laneVerdict i d l = none) ∧
    (i.lanes.get l = .member → silent →
      laneVerdict i d l =
        if i.cause = .expired ∧ i.slot.roll.get l = true then some .strikeMissed else none) ∧
    (i.lanes.get l = .probation → silent → laneVerdict i d l = none) ∧
    ∀ q ∈ i.slot.proposals, q.lane = l →
      (i.lanes.get l = .member → laneVerdict i d l =
        countedVerdict i.cfg (i.slot.proposals.filter fun r => i.lanes.get r.lane == .member) q.value) ∧
      (i.lanes.get l = .probation →
        (d = none → laneVerdict i d l = none) ∧
        ∀ w, d = some w → laneVerdict i d l =
          if agree i.cfg q.value w = true then some .probationCredit else some .probationFailure)

/-- A verdict that does not fit the lane's state has no effect; a clean vote and a strike below the limit change the
lane's own counts alone; the strike that reaches the limit excludes the lane with its own cause; the credit that
reaches the probation length makes it MEMBER, with its LANE notice and record (R68, R73, R76, R77, R78). -/
def Obligations.VerdictsTaken : Prop :=
  ∀ (l : Lane) (s : State),
    (∀ v, (s.laneState l).joined = false → s.takeVerdict l v = s) ∧
    (s.laneState l = .member → s.takeVerdict l (some .probationCredit) = s ∧
      s.takeVerdict l (some .probationFailure) = s ∧
      s.takeVerdict l (some .cleanVote) =
        s.putLane l
          (if (s.lane l).cleanRun + 1 = s.global.decayInterval then
            { s.lane l with cleanRun := 0, strikes := (s.lane l).strikes - 1 }
          else { s.lane l with cleanRun := (s.lane l).cleanRun + 1 }) ∧
      ∀ v cause, (v, cause) ∈ [(Verdict.strikeMiscompare, LaneCause.miscompare), (.strikeMissed, .missed)] →
        ((s.lane l).strikes + 1 ≠ s.global.strikeLimit →
          s.takeVerdict l (some v) =
            s.putLane l { s.lane l with strikes := (s.lane l).strikes + 1, cleanRun := 0 }) ∧
        ((s.lane l).strikes + 1 = s.global.strikeLimit → s.HasDeparted l .excluded cause (s.takeVerdict l (some v)))) ∧
    (s.laneState l = .probation → s.takeVerdict l (some .strikeMiscompare) = s ∧
      s.takeVerdict l (some .strikeMissed) = s ∧ s.takeVerdict l (some .cleanVote) = s ∧
      ((s.lane l).credit + 1 ≠ s.global.probationLength →
        s.takeVerdict l (some .probationCredit) = s.putLane l { s.lane l with credit := (s.lane l).credit + 1 }) ∧
      ((s.lane l).credit + 1 = s.global.probationLength →
        (s.takeVerdict l (some .probationCredit)).lane l =
          { s.lane l with state := .member, credit := 0, holdDeadline := none, lastCause := .probationPassed } ∧
        (s.takeVerdict l (some .probationCredit)).ve = s.ve ∧
        s.HasTold (.lane l .probation .member .probationPassed (s.members.insert l)) (some l)
          (.lane .probation .member .probationPassed (s.lane l).strikes) (s.takeVerdict l (some .probationCredit))) ∧
      s.HasDeparted l .down .probationFailed (s.takeVerdict l (some .probationFailure)))

/-! ### Lanes -/

/-- JOIN (R69, R70): the refusals of Table 4.4 in their order, each changing nothing but the replies; an accepted JOIN
founds where no lane is MEMBER and enters probation otherwise, with the lane's entry set afresh, its LANE notice and
record made (R68), and no other lane, vote, configuration or authority touched. Link effects: logs 6 to 8. Deadlines
reached: log 5. -/
def Obligations.JoinIsJudgedAndTaken : Prop :=
  ∀ (l : Lane) (tag : Byte) (payload : List Byte) (digest : Word32) (s : State),
    let answers : ReqLink → List Byte → Result → ReplyFields → Prop := fun link bytes r f =>
      exec (.join link tag bytes) s = .next (s.replied link ⟨0x20, tag, r, f⟩)
    (s.TakesAtOnce .ml → answers .ml payload .notPermitted .nothing) ∧
    (s.TakesAtOnce (.lane l) →
      (payload.length ≠ 4 → answers (.lane l) payload .badFrame .nothing) ∧
      (s.cu.mode = .config → answers (.lane l) (be32 digest) .wrongMode .nothing) ∧
      (s.cu.mode = .operate →
        (s.laneState l = .absent → answers (.lane l) (be32 digest) .notFitted .nothing) ∧
        (∀ d, s.laneState l = .excluded → (s.lane l).holdDeadline = some d →
          answers (.lane l) (be32 digest) .excluded
            (.excluded (if timeReached s.time d = true then 1 else max 1 (d - s.time).toNat) (s.lane l).lastCause)) ∧
        ((s.laneState l).joined = true → answers (.lane l) (be32 digest) .alreadyJoined .nothing) ∧
        (s.laneState l = .down → (s.link l.link).state = .ready →
          answers (.lane l) (be32 digest) .notPermitted .nothing) ∧
        (s.laneState l = .down → (s.link l.link).state = .run → digest ≠ s.cu.digest →
          answers (.lane l) (be32 digest) .digestMismatch (.digest s.cu.digest)) ∧
        (s.laneState l = .down → (s.link l.link).state = .run → digest = s.cu.digest →
          ∃ t, exec (.join (.lane l) tag (be32 digest)) s = .next t ∧
            t.lane l =
              { state := if s.memberCount = 0 then .member else .probation
                strikes := 0
                cleanRun := 0
                credit := 0
                beatDeadline := some (s.time + BitVec.ofNat 32 (s.global.beatTimeout * 10))
                beatSeq := none
                holdDeadline := none
                lastCause := if s.memberCount = 0 then .founded else .joined } ∧
            (∀ m, m ≠ l → t.lane m = s.lane m) ∧ t.ve = s.ve ∧ t.cu = s.cu ∧ t.au = s.au ∧
            t.sc.collection = s.sc.collection ∧ (s.sc.flag = true → t.du = s.du) ∧
            (let new : LaneState := if s.memberCount = 0 then .member else .probation
             let cause : LaneCause := if s.memberCount = 0 then .founded else .joined
             s.HasTold (.lane l .down new cause t.members) (some l) (.lane .down new cause 0) t) ∧
            (t.link l.link).replies = (s.link l.link).replies ++
              [⟨0x20, tag, if s.memberCount = 0 then .founded else .probation, .nothing⟩])))

/-- LEAVE (R84): a PROBATION or MEMBER lane goes DOWN with cause LEFT and loses what a departure takes, and its LANE
notice and record are made (R68); any other LEAVE is refused and changes nothing but the replies. Link effects: logs 6
to 8. -/
def Obligations.LeaveTakesTheLaneDown : Prop :=
  ∀ (l : Lane) (tag : Byte) (payload : List Byte) (s : State),
    let answers : ReqLink → List Byte → Result → Prop := fun link bytes r =>
      exec (.leave link tag bytes) s = .next (s.replied link ⟨0x21, tag, r, .nothing⟩)
    (s.TakesAtOnce .ml → answers .ml payload .notPermitted) ∧
    (s.TakesAtOnce (.lane l) →
      (payload ≠ [] → answers (.lane l) payload .badFrame) ∧
      ((s.laneState l).joined = false → answers (.lane l) [] .notMember) ∧
      ((s.laneState l).joined = true →
        ∃ t, exec (.leave (.lane l) tag []) s = .next t ∧ s.HasDeparted l .down .left t ∧ t.cu = s.cu ∧
          (t.link l.link).replies = (s.link l.link).replies ++ [⟨0x21, tag, .ok, .nothing⟩]))

/-- BEAT (R79, R80, R81): one that is malformed or has no health code is answered BAD_FRAME; with health OK the
sequence is recorded, a joined lane's beat deadline moves, and the STATE reply shows the part as it then stands;
nothing else changes. Link effects: logs 6 to 8. -/
def Obligations.BeatIsAnsweredWithTheState : Prop :=
  ∀ (l : Lane) (tag q : Byte) (payload : List Byte) (s : State), s.TakesAtOnce (.lane l) →
    ((∀ b h, payload = [b, h] → h ≠ 0 ∧ h ≠ 1) →
      exec (.beat (.lane l) tag payload) s = .next (s.replied (.lane l) ⟨0x22, tag, .badFrame, .nothing⟩)) ∧
    exec (.beat (.lane l) tag [q, 0]) s =
      .next
        ((s.putLane l { s.lane l with
            beatSeq := some q
            beatDeadline :=
              if (s.laneState l).joined = true then some (s.time + BitVec.ofNat 32 (s.global.beatTimeout * 10))
              else (s.lane l).beatDeadline }).replied (.lane l)
          ⟨0x22, tag, .ok, .state
            { mode := s.cu.mode
              safe := s.sc.flag
              own := s.laneState l
              strikes := (s.lane l).strikes
              members := s.members
              holder := s.au.holder
              epoch := s.au.epoch
              digest := s.cu.digest
              time := s.time
              gap := match (s.lane l).beatSeq with | none => false | some r => q != r + 1 }⟩)

/-- A DEGRADED beat and a beat timer that has run out take a MEMBER lane to EXCLUDED and a PROBATION lane to DOWN
(R79, R82), with the LANE notice and record of the change (R68); a beat timer that has not run out, or a lane in
another state, changes nothing. A DEGRADED beat of a lane in another state only has its sequence recorded (Table 4.6,
R81). Either way the STATE reply shows the part as the beat leaves it (R80). Link effects: logs 6 to 8. Deadlines
reached: log 5. A command whose event cannot occur changes nothing: log 3. -/
def Obligations.BeatLossDepartsTheLane : Prop :=
  ∀ (l : Lane) (s : State),
    let out : LaneState := if s.laneState l = .member then .excluded else .down
    let answered : Byte → Byte → State → State := fun tag q t => t.replied (.lane l) ⟨0x22, tag, .ok, .state
      { mode := t.cu.mode
        safe := t.sc.flag
        own := t.laneState l
        strikes := (t.lane l).strikes
        members := t.members
        holder := t.au.holder
        epoch := t.au.epoch
        digest := t.cu.digest
        time := t.time
        gap := match (s.lane l).beatSeq with | none => false | some r => q != r + 1 }⟩
    (∀ tag q, s.TakesAtOnce (.lane l) →
      ((s.laneState l).joined = true →
        ∃ t, exec (.beat (.lane l) tag [q, 1]) s = .next (answered tag q t) ∧ s.HasDeparted l out .selfReported t ∧
          (t.lane l).beatSeq = some q ∧ t.cu = s.cu ∧ t.lu = s.lu) ∧
      ((s.laneState l).joined = false →
        exec (.beat (.lane l) tag [q, 1]) s =
          .next (answered tag q (s.putLane l { s.lane l with beatSeq := some q })))) ∧
    (∀ d, s.resetN = .high → (s.lane l).beatDeadline = some d →
      (timeReached s.time d = true → (s.laneState l).joined = true →
        ∃ t, exec (.beatTimeout l) s = .next t ∧ s.HasDeparted l out .beatLost t ∧
          (t.lane l).beatSeq = (s.lane l).beatSeq) ∧
      (timeReached s.time d = false ∨ (s.laneState l).joined = false → exec (.beatTimeout l) s = .next s))

/-- The hold timer of an EXCLUDED lane that has run out makes the lane DOWN with cause HOLD_ENDED and empties its
notice queue, with its LANE notice and record (R68); no other lane, vote, authority or restart collection is touched
(R86). Before that it changes nothing.
Deadlines reached: log 5. A command whose event cannot occur changes nothing: log 3. -/
def Obligations.HoldExpiryMakesTheLaneDown : Prop :=
  ∀ (l : Lane) (d : Time) (s : State), s.resetN = .high → (s.lane l).holdDeadline = some d →
    (timeReached s.time d = true → s.laneState l = .excluded →
      ∃ t, exec (.holdExpiry l) s = .next t ∧
        t.lane l =
          { s.lane l with
            state := .down
            lastCause := .holdEnded
            strikes := 0
            cleanRun := 0
            credit := 0
            beatDeadline := none
            holdDeadline := none } ∧
        (∀ m, m ≠ l → t.lane m = s.lane m) ∧ (t.nu.get l).queue = [] ∧ (t.nu.get l).lost = 0 ∧
        s.HasTold (.lane l .excluded .down .holdEnded s.members) (some l)
          (.lane .excluded .down .holdEnded (s.lane l).strikes) t ∧
        t.ve = s.ve ∧ t.au = s.au ∧ t.cu = s.cu ∧ t.lu = s.lu ∧ t.sc.collection = s.sc.collection) ∧
    (timeReached s.time d = false ∨ s.laneState l ≠ .excluded → exec (.holdExpiry l) s = .next s)

/-- A departure that leaves no lane MEMBER returns every PROBATION lane to DOWN (R75), said of LEAVE: the demotion
takes from the lane what a departure takes and makes its LANE record, after those of the lane that left (R68). Link
effects: logs 6 to 8. -/
def Obligations.LastMemberTakesProbationDown : Prop :=
  ∀ (l m : Lane) (tag : Byte) (s : State), s.TakesAtOnce (.lane l) → s.laneState l = .member →
    (∀ k, k ≠ l → s.laneState k ≠ .member) → m ≠ l → s.laneState m = .probation →
    ∃ t, exec (.leave (.lane l) tag []) s = .next t ∧ s.HasDeparted l .down .left t ∧ s.HasLeft m .down .noMember t ∧
      (∀ k, (t.laneState k).joined = false) ∧
      (t.ij.state ≠ .frozen → ∃ n : Nat, 1 ≤ n ∧ n ≤ 4 ∧
        ⟨s.ij.counter + BitVec.ofNat 32 n, s.time, some m,
          .lane .probation .down .noMember (s.lane m).strikes⟩ ∈ t.ij.ring)

/-! ### Authority -/

/-- CLAIM (R93, R94, R95): the refusals; the grant where no lane holds authority, with the epoch raised, the AUTHORITY
notice and the AUTHORITY record; the claim queued behind a holder; the two answers that change nothing. Link effects:
logs 6 to 8. -/
def Obligations.ClaimResults : Prop :=
  ∀ (l : Lane) (tag : Byte) (payload : List Byte) (s : State),
    let claim := Instr.claim (.lane l) tag []
    let told : Result → ReplyFields → State → State := fun r f u => u.replied (.lane l) ⟨0x30, tag, r, f⟩
    (s.TakesAtOnce .ml →
      exec (.claim .ml tag payload) s = .next (s.replied .ml ⟨0x30, tag, .notPermitted, .nothing⟩)) ∧
    (s.TakesAtOnce (.lane l) →
      (payload ≠ [] → exec (.claim (.lane l) tag payload) s = .next (told .badFrame .nothing s)) ∧
      (s.cu.mode = .config → exec claim s = .next (told .wrongMode .nothing s)) ∧
      (s.cu.mode = .operate → s.laneState l ≠ .member → exec claim s = .next (told .notMember .nothing s)) ∧
      (s.cu.mode = .operate → s.laneState l = .member →
        (s.au.holder = none →
          exec claim s = .next (told .granted (.epoch (s.au.epoch + 1))
            ((({ s with au := ⟨some l, s.au.epoch + 1, s.au.claims⟩ } : State).notify s.joined
                (.authority none (some l) (s.au.epoch + 1) .claimed s.au.claims)).submit (some l)
              (.authority none (some l) (s.au.epoch + 1) .claimed)))) ∧
        (s.au.holder = some l → exec claim s = .next (told .alreadyHolder (.epoch s.au.epoch) s)) ∧
        (∀ h, s.au.holder = some h → h ≠ l →
          (l ∈ s.au.claims →
            exec claim s = .next (told .duplicate (.position (s.au.claims.idxOf l + 1)) s)) ∧
          (l ∉ s.au.claims →
            exec claim s = .next (told .queued (.position (s.au.claims.length + 1))
              { s with au := { s.au with claims := s.au.claims ++ [l] } })))))

/-- YIELD (R93, R94, R97): the refusals; the hand-over to the head of the claim queue, or to none, with the epoch
raised, the AUTHORITY notice and the AUTHORITY record. WITHDRAW (R98): the lane's claim leaves the queue, with no
notice, record or change of epoch; without a claim the answer is NOT_QUEUED. Link effects: logs 6 to 8. -/
def Obligations.AuthorityIsYieldedAndClaimsWithdrawn : Prop :=
  ∀ (l : Lane) (tag : Byte) (payload : List Byte) (epoch : Serial) (s : State),
    let told : Byte → Result → ReplyFields → State → State := fun k r f u => u.replied (.lane l) ⟨k, tag, r, f⟩
    let next := s.au.claims.head?
    (s.TakesAtOnce .ml →
      exec (.yield .ml tag payload) s = .next (s.replied .ml ⟨0x31, tag, .notPermitted, .nothing⟩) ∧
      exec (.withdraw .ml tag payload) s = .next (s.replied .ml ⟨0x32, tag, .notPermitted, .nothing⟩)) ∧
    (s.TakesAtOnce (.lane l) →
      (payload.length ≠ 2 → exec (.yield (.lane l) tag payload) s = .next (told 0x31 .badFrame .nothing s)) ∧
      (s.au.holder ≠ some l →
        exec (.yield (.lane l) tag (be16 epoch)) s = .next (told 0x31 .notHolder .nothing s)) ∧
      (s.au.holder = some l → epoch ≠ s.au.epoch →
        exec (.yield (.lane l) tag (be16 epoch)) s = .next (told 0x31 .staleEpoch .nothing s)) ∧
      (s.au.holder = some l → epoch = s.au.epoch →
        exec (.yield (.lane l) tag (be16 epoch)) s = .next (told 0x31 .ok (.yielded (epoch + 1) next)
          ((({ s with au := ⟨next, epoch + 1, s.au.claims.tail⟩ } : State).notify s.joined
              (.authority (some l) next (epoch + 1) .yielded s.au.claims.tail)).submit (some l)
            (.authority (some l) next (epoch + 1) .yielded)))) ∧
      (payload ≠ [] → exec (.withdraw (.lane l) tag payload) s = .next (told 0x32 .badFrame .nothing s)) ∧
      (l ∉ s.au.claims → exec (.withdraw (.lane l) tag []) s = .next (told 0x32 .notQueued .nothing s)) ∧
      (l ∈ s.au.claims → s.au.claims.Nodup →
        exec (.withdraw (.lane l) tag []) s =
          .next (told 0x32 .ok .nothing { s with au := { s.au with claims := s.au.claims.erase l } })))

/-- A MEMBER lane's departure passes authority as Table 5.3 says (R93, R94, R99), said of LEAVE: to the head of the
queue, else with auto-succession to the MEMBER of lowest rank, else to none, the epoch raised by one, with the AUTHORITY
notice and the AUTHORITY record of the cause, behind the LANE record; a departure of another lane changes neither
holder nor epoch and makes no AUTHORITY record. Link effects: logs 6 to 8. -/
def Obligations.DepartureOfTheHolder : Prop :=
  ∀ (l : Lane) (tag : Byte) (s : State), s.TakesAtOnce (.lane l) → s.laneState l = .member → s.AuthoritySound →
    ∃ t, exec (.leave (.lane l) tag []) s = .next t ∧
      let passes : Option Lane → List Lane → AuthCause → Prop := fun holder claims cause =>
        t.au = ⟨holder, s.au.epoch + 1, claims⟩ ∧
          s.HasReported 1 (.authority (some l) holder (s.au.epoch + 1) cause claims) (some l)
            (.authority (some l) holder (s.au.epoch + 1) cause) t
      (s.au.holder ≠ some l → t.au = { s.au with claims := s.au.claims.erase l } ∧
        ∀ r ∈ t.ij.ring, r ∈ s.ij.ring ∨ ∀ old new epoch cause, r.body ≠ .authority old new epoch cause) ∧
      (s.au.holder = some l →
        (∀ h rest, s.au.claims = h :: rest → passes (some h) rest .succeededQueue) ∧
        (s.au.claims = [] →
          (s.global.autoSuccession = false → passes none [] .lost) ∧
          (s.global.autoSuccession = true →
            ((∀ m, m ≠ l → s.laneState m ≠ .member) → passes none [] .lost) ∧
            ∀ m, m ≠ l → s.laneState m = .member →
              (∀ k, k ≠ l → k ≠ m → s.laneState k = .member → s.global.ranks.get m < s.global.ranks.get k) →
              passes (some m) [] .succeededRank)))

/-! ### The safe condition and restart -/

/-- The re-evaluation of the safe condition in each row of Table 6.1, with what an entry and an exit do (R107, R108).
The departure that brings the MEMBER lanes below minimum members enters the condition (R105, R107), said of LEAVE: the
flag is set, SAFE_N low, every enabled point that is not FAULTED has its safe value for target, every other point's
drive part is left, and the SAFE notice and record follow those of the change. The JOIN, and the promotion by a
probation credit, that bring them up to it leave the condition (R108): the flag is clear, SAFE_N high, the SAFE notice
and record are made, and nothing is handed to the drive unit. Link effects: logs 6 to 8. -/
def Obligations.SafeConditionIsEnteredAndLeft : Prop :=
  (∀ (subject : Option Lane) (s : State),
    let holds : Prop := s.cu.mode = .config ∨ s.memberCount < s.global.minMembers
    let told : SafeDirection → State → State := fun d u =>
      (u.notify s.joined (.safe d s.memberCount s.global.minMembers)).submit subject
        (.safe d s.memberCount s.global.minMembers)
    (holds → s.sc.flag = false → s.reevaluate subject =
      told .entered { s with
        sc := ⟨true, .low, s.sc.collection⟩
        du := s.du.handSafeValues s.cu.active }) ∧
    (¬ holds → s.sc.flag = true → s.reevaluate subject =
      told .exited { s with sc := ⟨false, .high, s.sc.collection⟩ }) ∧
    ((holds ↔ s.sc.flag = true) → s.reevaluate subject = s)) ∧
  ∀ (l : Lane) (tag : Byte) (s : State), s.cu.mode = .operate →
    (s.TakesAtOnce (.lane l) → s.sc.flag = false → s.laneState l = .member → s.memberCount ≤ s.global.minMembers →
      ∃ t, exec (.leave (.lane l) tag []) s = .next t ∧ t.sc.flag = true ∧ t.sc.safeN = .low ∧
        (∀ p, ((s.cfgOf p).enabled = true → (s.driveOf p).status ≠ .faulted →
            (t.driveOf p).target = (s.cfgOf p).safe) ∧
          ((s.cfgOf p).enabled = false ∨ (s.driveOf p).status = .faulted → t.driveOf p = s.driveOf p)) ∧
        s.HasReported (if s.au.holder = some l then 2 else 1)
          (.safe .entered (s.memberCount - 1) s.global.minMembers) (some l)
          (.safe .entered (s.memberCount - 1) s.global.minMembers) t) ∧
    (s.TakesAtOnce (.lane l) → s.sc.flag = true → s.laneState l = .down → (s.link l.link).state = .run →
      s.memberCount = 0 → s.global.minMembers = 1 →
      ∃ t, exec (.join (.lane l) tag (be32 s.cu.digest)) s = .next t ∧ t.sc.flag = false ∧ t.sc.safeN = .high ∧
        t.du = s.du ∧ s.HasReported 1 (.safe .exited 1 1) (some l) (.safe .exited 1 1) t) ∧
    (s.sc.flag = true → s.laneState l = .probation → (s.lane l).credit + 1 = s.global.probationLength →
      s.global.minMembers ≤ s.memberCount + 1 →
      let t := s.takeVerdict l (some .probationCredit)
      t.laneState l = .member ∧ t.sc.flag = false ∧ t.sc.safeN = .high ∧ t.du = s.du ∧
        s.HasReported 1 (.safe .exited (s.memberCount + 1) s.global.minMembers) (some l)
          (.safe .exited (s.memberCount + 1) s.global.minMembers) t)

/-- RESTART below the threshold opens or joins the restart collection, or is a repeated vote (R110); a collection that
reaches its deadline closes with its notices (R112). The refusals change nothing but the replies. Link effects: logs 6
to 8. Deadlines reached: log 5. A command whose event cannot occur changes nothing: log 3. -/
def Obligations.RestartVotesAreCollected : Prop :=
  ∀ (l : Lane) (tag : Byte) (payload : List Byte) (s : State),
    let told : Result → ReplyFields → State → State := fun r f u => u.replied (.lane l) ⟨0x40, tag, r, f⟩
    let threshold := s.global.fitted.count / 2 + 1
    let left : Time → Nat := fun d => if timeReached s.time d = true then 1 else max 1 (d - s.time).toNat
    (s.TakesAtOnce (.lane l) →
      (payload ≠ [] → exec (.restart l tag payload) s = .next (told .badFrame .nothing s)) ∧
      (s.cu.mode = .config → exec (.restart l tag []) s = .next (told .wrongMode .nothing s)) ∧
      (s.cu.mode = .operate → s.laneState l ≠ .member →
        exec (.restart l tag []) s = .next (told .notMember .nothing s)) ∧
      (s.cu.mode = .operate → s.laneState l = .member →
        (s.sc.collection = none → 2 ≤ threshold →
          exec (.restart l tag []) s = .next (told .pending (.votes 1 threshold 500)
            { s with sc := { s.sc with collection := some ⟨LaneSet.empty.insert l, s.time + 500⟩ } })) ∧
        (∀ c, s.sc.collection = some c → c.voters.get l = true →
          exec (.restart l tag []) s =
            .next (told .duplicate (.votes c.voters.count threshold (left c.deadline)) s)) ∧
        (∀ c, s.sc.collection = some c → c.voters.get l = false → c.voters.count + 1 < threshold →
          exec (.restart l tag []) s =
            .next (told .pending (.votes (c.voters.count + 1) threshold (left c.deadline))
              { s with sc := { s.sc with collection := some { c with voters := c.voters.insert l } } })))) ∧
    ∀ c, s.resetN = .high → s.sc.collection = some c →
      (timeReached s.time c.deadline = true →
        exec .collectionDeadline s =
          .next (({ s with sc := { s.sc with collection := none } } : State).notify c.voters
            (.restartExpired c.voters threshold))) ∧
      (timeReached s.time c.deadline = false → exec .collectionDeadline s = .next s)

/-- A vote that reaches the threshold, and RESTART on the maintenance link in OPERATE mode, perform a warm restart and
are answered RESTARTED after it (R111, R113, R114), with the records of Table 9.6 and nothing else of a link touched.
Two clauses of HasRestarted are the model's reading: every notice queue is empty after it, also where one of the
restart's own records freezes the journal (log 15, with section 8.9), and an ABSENT lane keeps its whole entry, a
recorded beat sequence too (log 20). Link effects: logs 6 to 8. -/
def Obligations.WarmRestartReinitialises : Prop :=
  ∀ (tag : Byte) (payload : List Byte) (s : State),
    (∀ l : Lane, s.TakesAtOnce (.lane l) → s.cu.mode = .operate → s.laneState l = .member →
      (∀ c, s.sc.collection = some c → c.voters.get l = false) →
      s.global.fitted.count / 2 + 1 ≤
        (match s.sc.collection with | none => 0 | some c => c.voters.count) + 1 →
      ∃ t, exec (.restart l tag []) s = .next t ∧
        s.HasRestarted .laneVoted
          (match s.sc.collection with | none => LaneSet.empty.insert l | some c => c.voters.insert l) t ∧
        t.lu = (s.replied (.lane l) ⟨0x40, tag, .restarted, .nothing⟩).lu) ∧
    (s.TakesAtOnce .ml →
      (payload ≠ [] →
        exec (.maintenanceRestart tag payload) s = .next (s.replied .ml ⟨0x40, tag, .badFrame, .nothing⟩)) ∧
      (s.cu.mode = .config →
        exec (.maintenanceRestart tag []) s = .next (s.replied .ml ⟨0x40, tag, .wrongMode, .nothing⟩)) ∧
      (s.cu.mode = .operate →
        ∃ t, exec (.maintenanceRestart tag []) s = .next t ∧ s.HasRestarted .maintenance ⟨false, false, false⟩ t ∧
          t.lu = (s.replied .ml ⟨0x40, tag, .restarted, .nothing⟩).lu))

/-! ### Points and the drive -/

/-- POINT_READ (R15, R16): a payload of another length and a point above 63 are refused; any other is answered with
the point's record of that moment. It changes nothing but the replies. Link effects: logs 6 to 8. Deadlines reached:
log 5. -/
def Obligations.PointReadReportsThePoint : Prop :=
  ∀ (link : ReqLink) (tag : Byte) (payload : List Byte) (b : Byte) (s : State), s.TakesAtOnce link →
    (payload.length ≠ 1 →
      exec (.pointRead link tag payload) s = .next (s.replied link ⟨0x50, tag, .badFrame, .nothing⟩)) ∧
    (64 ≤ b.toNat → exec (.pointRead link tag [b]) s = .next (s.replied link ⟨0x50, tag, .badIndex, .nothing⟩)) ∧
    ∀ p : Fin 64, b.toNat = p.val →
      exec (.pointRead link tag [b]) s =
        .next (s.replied link
          ⟨0x50, tag, .ok, .point
            { point := p
              cfg := s.cu.active.points.at p
              next := (s.voteOf p).next
              slots := (s.voteOf p).slots.map fun x =>
                { serial := x.serial
                  state := x.state
                  timeLeft := if timeReached s.time x.deadline = true then 0 else (x.deadline - s.time).toNat
                  roll := x.roll
                  proposers := ⟨x.hasProposal .a, x.hasProposal .b, x.hasProposal .c⟩ }
              last := (s.voteOf p).last
              target := (s.driveOf p).target
              confirmed := (s.driveOf p).confirmed
              status := (s.driveOf p).status
              retries := (s.driveOf p).budget }⟩)

/-- POINT_READ discloses no proposal value (R17): from two states that differ only in the values of the proposals in
open slots it leads to states that differ only there, with the same reply. -/
def Obligations.PointReadHidesProposals : Prop :=
  ∀ (link : ReqLink) (tag : Byte) (payload : List Byte) (s t s' t' : State),
    (s.link link.link).waiting = [] → s.veiled = t.veiled →
    exec (.pointRead link tag payload) s = .next s' → exec (.pointRead link tag payload) t = .next t' →
    s'.veiled = t'.veiled

/-- POINT_CLEAR (R101, R131, R133): the refusals in the order of Table 7.4; an accepted one re-queues the FAULTED
point with its target kept, confirmed UNKNOWN and a fresh budget, and makes its notice and record. Link effects: logs
6 to 8. -/
def Obligations.PointClearRequeuesTheFaultedPoint : Prop :=
  ∀ (link : ReqLink) (tag : Byte) (payload : List Byte) (b : Byte) (epoch : Serial) (s : State), s.TakesAtOnce link →
    let clear := Instr.pointClear link tag (b :: be16 epoch)
    let refused : Result → Prop := fun r => exec clear s = .next (s.replied link ⟨0x51, tag, r, .nothing⟩)
    let passes : Prop := ∀ l, link = .lane l → s.au.holder = some l ∧ epoch = s.au.epoch
    (payload.length ≠ 3 →
      exec (.pointClear link tag payload) s = .next (s.replied link ⟨0x51, tag, .badFrame, .nothing⟩)) ∧
    (∀ l, link = .lane l → s.au.holder ≠ some l → refused .notHolder) ∧
    (∀ l, link = .lane l → s.au.holder = some l → epoch ≠ s.au.epoch → refused .staleEpoch) ∧
    (passes → 64 ≤ b.toNat → refused .badIndex) ∧
    ∀ p : Fin 64, b.toNat = p.val → passes →
      ((s.driveOf p).status ≠ .faulted → refused .notFaulted) ∧
      ((s.driveOf p).status = .faulted →
        let x : DrivePart := { s.driveOf p with confirmed := none, status := .queued, budget := s.global.echoRetries }
        exec clear s = .next
          (((({ s with du := { s.du with parts := s.du.parts.put p x, queue := s.du.queue ++ [p] } } : State).notify
              s.joined (.pointFault p true x.target none none none)).submit
              (match link with | .lane l => some l | .ml => none)
              (.applyFail p x.lastTag x.target .cleared none false x.budget)).replied link
            ⟨0x51, tag, .ok, .cleared p x.target⟩))

/-- The hand-off of a value, by drive status (R118, Table 7.2). -/
def Obligations.HandOffByStatus : Prop :=
  ∀ (retries : Nat) (p : Fin 64) (v : Value) (d : DriveUnit),
    ((d.part p).status = .faulted → d.handOff retries p v = d.putPart p { d.part p with target := v }) ∧
    ((d.part p).status = .idle → (d.part p).target = v → (d.part p).confirmed = some v →
      d.handOff retries p v = d) ∧
    ((d.part p).status = .idle → ¬ ((d.part p).target = v ∧ (d.part p).confirmed = some v) →
      d.handOff retries p v =
        { d.putPart p { d.part p with target := v, budget := retries, status := .queued } with
          queue := d.queue ++ [p] }) ∧
    ((d.part p).status = .queued ∨ (d.part p).status = .inFlight →
      d.handOff retries p v = d.putPart p { d.part p with target := v, budget := retries })

/-- DISPATCH of the head of the apply queue where R121's conditions hold (R122): the tag is the first after the
counter that no echo entry holds, found within 8 tries; the APPLY starts, taking a credit, and the point's echo entry
runs for the echo timeout. -/
def Obligations.DispatchSendsTheHead : Prop :=
  ∀ (s : State) (p : Fin 64) (rest : List (Fin 64)), s.resetN = .high →
    s.du.queue = p :: rest → (s.link .dl).state = .run → 1 ≤ (s.link .dl).credit →
      (s.link .dl).sending = none → s.du.echoes.length < 8 →
      ∃ tries : Nat, tries < 8 ∧
        let tag : Byte := s.du.tagCounter + 1 + BitVec.ofNat 8 tries
        (∀ e ∈ s.du.echoes, e.tag ≠ tag) ∧
        (∀ j < tries, ∃ e ∈ s.du.echoes, e.tag = s.du.tagCounter + 1 + BitVec.ofNat 8 j) ∧
        exec .dispatch s = .next
          { s with
            lu := s.lu.set .dl { s.link .dl with
              credit := (s.link .dl).credit - 1
              sending := some (.apply p tag (s.driveOf p).target) }
            du :=
              { parts := s.du.parts.put p { s.driveOf p with status := .inFlight, lastTag := tag }
                queue := rest
                echoes := s.du.echoes ++
                  [⟨p, tag, (s.driveOf p).target, s.time + BitVec.ofNat 32 (s.global.echoTimeout * 10)⟩]
                tagCounter := tag } }

/-- An ECHO that confirms its apply, and one that is stray (R123, R124, R125, R128). Link effects: logs 6 to 8. -/
def Obligations.EchoConfirmsOrIsStray : Prop :=
  ∀ (tag b : Byte) (r : Value) (s : State), s.resetN = .high → (s.link .dl).state.up = true →
    (s.link .dl).waiting.length < 4 →
    (∀ (p : Fin 64) (e : EchoEntry), b.toNat = p.val → s.du.entryOf p tag = some e →
      agree (s.cfgOf p) r e.sent = true →
      let gone := s.du.echoes.filter fun f => !(f.point == p && f.tag == tag)
      let x : DrivePart := { s.driveOf p with confirmed := some e.sent }
      exec (.echo tag ([b, 0] ++ be16 r)) s = .next
        { s.frameHeard .dl with
          du :=
            if x.target = e.sent then
              { s.du with parts := s.du.parts.put p { x with status := .idle }, echoes := gone }
            else
              { s.du with
                parts := s.du.parts.put p { x with status := .queued }, echoes := gone
                queue := s.du.queue ++ [p] } }) ∧
    ((∀ e ∈ s.du.echoes, ¬ (e.point.val = b.toNat ∧ e.tag = tag)) →
      exec (.echo tag ([b, 0] ++ be16 r)) s =
        .next ((s.frameHeard .dl).submit none (.strayEcho b tag .done (some r))) ∧
      exec (.echo tag [b, 1]) s = .next ((s.frameHeard .dl).submit none (.strayEcho b tag .rejected none)))

/-- The failure of an apply, by a readback that does not agree, a rejection or the echo deadline (R124, R126, R127,
R129): with budget left the point is re-queued with one retry fewer; without, it is FAULTED and the lanes are told.
Link effects: logs 6 to 8. Deadlines reached: log 5. A command whose event cannot occur changes nothing: log 3. -/
def Obligations.ApplyFailureRetriesOrFaults : Prop :=
  ∀ (p : Fin 64) (tag : Byte) (e : EchoEntry) (s : State), s.resetN = .high → s.du.entryOf p tag = some e →
    let gone := s.du.echoes.filter fun f => !(f.point == p && f.tag == tag)
    let x := s.driveOf p
    let failed : ApplyCause → Option Value → State → State := fun cause readback u =>
      if 1 ≤ x.budget then
        ({ u with
            du := { u.du with
              parts := u.du.parts.put p { x with status := .queued, budget := x.budget - 1 }
              echoes := gone
              queue := u.du.queue ++ [p] } } : State).submit none
          (.applyFail p tag e.sent cause readback false (x.budget - 1))
      else
        (({ u with du := { u.du with parts := u.du.parts.put p { x with status := .faulted }, echoes := gone } } :
            State).notify u.joined (.pointFault p false e.sent (some tag) (some cause) readback)).submit none
          (.applyFail p tag e.sent cause readback true 0)
    (timeReached s.time e.deadline = true → exec (.echoDeadline p tag) s = .next (failed .timeout none s)) ∧
    (timeReached s.time e.deadline = false → exec (.echoDeadline p tag) s = .next s) ∧
    ((s.link .dl).state.up = true → (s.link .dl).waiting.length < 4 →
      exec (.echo tag [BitVec.ofNat 8 p.val, 1]) s = .next (failed .rejected none (s.frameHeard .dl)) ∧
      ∀ r, agree (s.cfgOf p) r e.sent = false →
        exec (.echo tag ([BitVec.ofNat 8 p.val, 0] ++ be16 r)) s =
          .next (failed .mismatch (some r) (s.frameHeard .dl)))

/-- A FAULTED point stays FAULTED, with its confirmed value and budget, until a POINT_CLEAR, a commit, a warm restart
or a power-on (R11, R118, R129): no other command changes that where the drive unit is sound (a FAULTED point is
neither in the apply queue nor in the echo table, R116, R117). A command may also let a request be taken that waits in
a receive buffer (R137): of those, only a waiting POINT_CLEAR, CFG_COMMIT or RESTART is shut out. -/
def Obligations.FaultedPointStaysFaulted : Prop :=
  ∀ (c : Instr) (p : Fin 64) (s t : State),
    s.DriveSound →
    (∀ link, ∀ r ∈ (s.link link).waiting, r.kind ≠ 0x51 ∧ r.kind ≠ 0x73 ∧ r.kind ≠ 0x40) →
    (s.driveOf p).status = .faulted →
    (∀ link tag payload, c ≠ .pointClear link tag payload ∧ c ≠ .cfgCommit link tag payload) →
    (∀ l tag payload, c ≠ .restart l tag payload ∧ c ≠ .maintenanceRestart tag payload) →
    c ≠ .resetAssert → (∀ f, c ≠ .resetRelease f) → exec c s = .next t →
    (t.driveOf p).status = .faulted ∧ (t.driveOf p).confirmed = (s.driveOf p).confirmed ∧
      (t.driveOf p).budget = (s.driveOf p).budget ∧ (t.driveOf p).lastTag = (s.driveOf p).lastTag

/-! ### The journal and the notices -/

/-- JOURNAL_READ (R156, R157) and JOURNAL_REARM (R159): the refusals in order; a read's report of the ring from the
start that Table 9.5 gives, as many whole records as fit; the re-arm with its REARM record (the post counter is kept,
log 17). A record's bytes, with its kind code, its length and its kind fields (R187, Table 11.9); what the single fields
come to is said with the frames (`FramesRoundTrip`). Link effects: logs 6 to 8. -/
def Obligations.JournalIsReadAndRearmed : Prop :=
  (let written : RecordBody → Byte → Nat → List Byte → Prop := fun body kind length fields =>
      fields.length = length ∧
      ∀ (seq : Word32) (time : Time) (subject : Option Lane), Record.bytes ⟨seq, time, subject, body⟩ =
        be32 seq ++ be32 time ++ [kind, laneByte? subject, BitVec.ofNat 8 length] ++ fields;
    (∀ r, written (.outcome r) 0 (10 + 5 * r.entries.length) (outcomeLayout r)) ∧
    (∀ old new cause strikes, written (.lane old new cause strikes) 1 4
      [old.code, new.code, cause.code, BitVec.ofNat 8 strikes]) ∧
    (∀ old new epoch cause, written (.authority old new epoch cause) 2 5
      ([laneByte? old, laneByte? new] ++ be16 epoch ++ [cause.code])) ∧
    (∀ (p : Fin 64) tag v cause readback final left, written (.applyFail p tag v cause readback final left) 3 10
      ([BitVec.ofNat 8 p.val, tag] ++ be16 v ++ [cause.code] ++ value? readback ++
        [flagByte final, BitVec.ofNat 8 left])) ∧
    (∀ p tag status readback, written (.strayEcho p tag status readback) 4 6
      ([p, tag, status.code] ++ value? readback)) ∧
    (∀ l old new cause, written (.link l old new cause) 5 4
      [linkByte l, old.code, new.code, linkCauseByte cause]) ∧
    (∀ direction members least, written (.safe direction members least) 6 3
      [direction.code, BitVec.ofNat 8 members, BitVec.ofNat 8 least]) ∧
    (∀ kind voters, written (.restart kind voters) 7 2 [kind.code, laneSetByte voters]) ∧
    (∀ old new fitted first, written (.config old new fitted first) 8 10
      (be32 old ++ be32 new ++ [laneSetByte fitted, flagByte first])) ∧
    ∀ state trigger dropped, written (.rearm state trigger dropped) 9 8
      ([state.code] ++ word32? trigger ++ be16 (BitVec.ofNat 16 dropped))) ∧
  ∀ (link : ReqLink) (tag : Byte) (payload : List Byte) (start : Word32) (epoch : Serial) (s : State),
    s.TakesAtOnce link →
    let read := Instr.journalRead link tag (be32 start)
    let rearm := Instr.journalRearm link tag (be16 epoch)
    let told : Byte → Result → ReplyFields → State → State := fun k r f u => u.replied link ⟨k, tag, r, f⟩
    (payload.length ≠ 4 → exec (.journalRead link tag payload) s = .next (told 0x60 .badFrame .nothing s)) ∧
    (∀ l, link = .lane l →
      (s.ij.state ≠ .frozen → exec read s = .next (told 0x60 .notFrozen .nothing s)) ∧
      (s.ij.state = .frozen → s.laneState l ≠ .member → exec read s = .next (told 0x60 .notMember .nothing s)) ∧
      (s.ij.state = .frozen → s.laneState l = .member → s.ij.trigger.bind Trigger.subject = some l →
        exec read s = .next (told 0x60 .subjectLane .nothing s))) ∧
    ((∀ l, link = .lane l → s.ij.state = .frozen ∧ s.laneState l = .member ∧
        s.ij.trigger.bind Trigger.subject ≠ some l) →
      ∃ gap onward count, let size := fun n => ((onward.take n).map Record.bytes).flatten.length
        exec read s = .next (told 0x60 .ok (.journal
          { state := s.ij.state
            oldest := s.ij.ring.head?.map Record.seq
            newest := s.ij.ring.getLast?.map Record.seq
            trigger := s.ij.trigger.map Trigger.seq
            dropped := s.ij.dropped
            gap := gap
            records := onward.take count }) s) ∧
        count ≤ onward.length ∧ size count ≤ 106 ∧ (count < onward.length → 106 < size (count + 1)) ∧
        (s.ij.ring = [] → gap = false ∧ onward = []) ∧
        ∀ r rest, s.ij.ring = r :: rest →
          let k := (start - r.seq).toNat
          (k < s.ij.ring.length → gap = false ∧ onward = s.ij.ring.drop k) ∧
          (s.ij.ring.length ≤ k → k ≤ 2147483647 → gap = false ∧ onward = []) ∧
          (s.ij.ring.length ≤ k → 2147483648 ≤ k → gap = true ∧ onward = s.ij.ring)) ∧
    (payload.length ≠ 2 → exec (.journalRearm link tag payload) s = .next (told 0x61 .badFrame .nothing s)) ∧
    (∀ l, link = .lane l →
      (s.au.holder ≠ some l → exec rearm s = .next (told 0x61 .notHolder .nothing s)) ∧
      (s.au.holder = some l → epoch ≠ s.au.epoch → exec rearm s = .next (told 0x61 .staleEpoch .nothing s))) ∧
    ((∀ l, link = .lane l → s.au.holder = some l ∧ epoch = s.au.epoch) →
      (s.ij.state = .recording → exec rearm s = .next (told 0x61 .notFrozen .nothing s)) ∧
      (s.ij.state ≠ .recording →
        exec rearm s = .next (told 0x61 .ok (.sequence s.ij.counter)
          { s with ij := {
              ring := (if s.ij.ring.length < 256 then s.ij.ring else s.ij.ring.tail) ++
                [⟨s.ij.counter, s.time, match link with | .lane l => some l | .ml => none,
                  .rearm s.ij.state (s.ij.trigger.map Trigger.seq) s.ij.dropped⟩]
              counter := s.ij.counter + 1
              state := .recording
              trigger := none
              postCounter := s.ij.postCounter
              dropped := 0 } })))

/-- The records each trigger of the trigger mask selects (R153, Table 9.3); a record submitted in each journal state
(R152 to R155, Table 9.2); and a notice submitted for a set of lanes (R141, R143): what is stored, what is counted as
dropped or lost, and nothing else. -/
def Obligations.RecordsAndNoticesAreTaken : Prop :=
  (∀ (m : TriggerMask) (body : RecordBody), m.selects body = true ↔
    (m.laneExcluded = true ∧ ∃ old cause strikes, body = .lane old .excluded cause strikes) ∨
    (m.pointFault = true ∧ ∃ p tag v cause readback left, body = .applyFail p tag v cause readback true left) ∨
    (m.noDecision = true ∧ ∃ r, body = .outcome r ∧
      (r.outcome = .split ∨ r.outcome = .short ∨ r.outcome = .empty ∨ r.outcome = .noAuthority)) ∨
    (m.safeEntered = true ∧ ∃ members least, body = .safe .entered members least) ∨
    (m.authorityLost = true ∧ ∃ old new epoch cause, body = .authority old new epoch cause ∧
      (cause = .lost ∨ cause = .succeededQueue ∨ cause = .succeededRank)) ∨
    (m.restart = true ∧ ∃ kind voters, body = .restart kind voters)) ∧
  (∀ (subject : Option Lane) (body : RecordBody) (s : State),
    let ring := (if s.ij.ring.length < 256 then s.ij.ring else s.ij.ring.tail) ++
      [⟨s.ij.counter, s.time, subject, body⟩]
    let j : Journal := { s.ij with ring := ring, counter := s.ij.counter + 1 }
    let hit := s.global.triggers.selects body
    let trigger : Trigger := ⟨s.ij.counter, body.kind, subject⟩
    (s.ij.state = .frozen →
      s.submit subject body = { s with ij := { s.ij with dropped := min 65535 (s.ij.dropped + 1) } }) ∧
    (s.ij.state = .recording → hit = false → s.submit subject body = { s with ij := j }) ∧
    (s.ij.state = .recording → hit = true → s.global.postCount ≠ 0 →
      s.submit subject body = { s with ij := { j with
        trigger := some trigger, postCounter := s.global.postCount, state := .postTrigger } }) ∧
    (s.ij.state = .recording → hit = true → s.global.postCount = 0 →
      s.submit subject body =
        ({ s with ij := { j with trigger := some trigger, postCounter := 0, state := .frozen } } : State).notify
          s.joined (.journalFrozen s.ij.counter body.kind subject s.ij.counter)) ∧
    (s.ij.state = .postTrigger → 2 ≤ s.ij.postCounter →
      s.submit subject body = { s with ij := { j with postCounter := s.ij.postCounter - 1 } }) ∧
    ∀ t, s.ij.state = .postTrigger → s.ij.postCounter = 1 → s.ij.trigger = some t →
      s.submit subject body =
        ({ s with ij := { j with postCounter := 0, state := .frozen } } : State).notify
          s.joined (.journalFrozen t.seq t.kind t.subject s.ij.counter)) ∧
  ∀ (recipients : LaneSet) (n : Notice) (s : State),
    s.notify recipients n = { s with nu := (s.notify recipients n).nu } ∧
    ∀ l, let b := s.nu.get l
      (recipients.get l = false ∨ (s.laneState l).joined = false → (s.notify recipients n).nu.get l = b) ∧
      (recipients.get l = true → (s.laneState l).joined = true →
        (b.queue.length < 16 → (s.notify recipients n).nu.get l = { b with queue := b.queue ++ [n] }) ∧
        (16 ≤ b.queue.length → (s.notify recipients n).nu.get l = { b with lost := min 255 (b.lost + 1) }))

/-! ### Configuration -/

/-- CFG_OPEN (R166) and CFG_ABORT (R171): the refusals; the session opened with the staging image a copy of the active
one; the session abandoned with the staging image put back. An accepted one makes no notice and no record. Link
effects: logs 6 to 8. -/
def Obligations.SessionOpensAndIsAbandoned : Prop :=
  ∀ (tag : Byte) (payload : List Byte) (s : State), s.TakesAtOnce .ml →
    let told : Byte → Result → State → State := fun k r u => u.replied .ml ⟨k, tag, r, .nothing⟩
    let opening := Instr.cfgOpen .ml tag []
    let abort := Instr.cfgAbort .ml tag []
    (payload ≠ [] → exec (.cfgOpen .ml tag payload) s = .next (told 0x70 .badFrame s)) ∧
    (s.cu.mode = .config → exec opening s = .next (told 0x70 .ok s)) ∧
    (s.cu.mode = .operate → ((∃ l, (s.laneState l).joined = true) ∨ ∃ p, (s.voteOf p).slots ≠ []) →
      exec opening s = .next (told 0x70 .busy s)) ∧
    (s.cu.mode = .operate → (∀ l, (s.laneState l).joined = false) → (∀ p, (s.voteOf p).slots = []) →
      s.SafetySound →
      exec opening s =
        .next (told 0x70 .ok { s with cu := { s.cu with mode := .config, staging := s.cu.active } })) ∧
    (payload ≠ [] → exec (.cfgAbort .ml tag payload) s = .next (told 0x74 .badFrame s)) ∧
    (s.cu.mode = .operate → exec abort s = .next (told 0x74 .wrongMode s)) ∧
    (s.cu.mode = .config → s.cu.committed = false → exec abort s = .next (told 0x74 .noActive s)) ∧
    (s.cu.mode = .config → s.cu.committed = true → (∀ l, (s.laneState l).joined = false) → s.SafetySound →
      exec abort s =
        .next (told 0x74 .ok { s with cu := { s.cu with mode := .operate, staging := s.cu.active } }))

/-- CFG_WRITE (R167, Tables 10.2, 1.2 and 10.3) and CFG_READ (R168): the refusals, with the field code of the first
field out of range; the whole record of the staging image written; the record of either image read. The index byte of
the reply for a global record is left open (log 11). Link effects: logs 6 to 8. -/
def Obligations.ConfigurationRecordsAreWrittenAndRead : Prop :=
  ∀ (tag b : Byte) (payload record : List Byte) (s : State), s.TakesAtOnce .ml →
    let told : Byte → Result → ReplyFields → State → State := fun k r f u => u.replied .ml ⟨k, tag, r, f⟩
    let write : Byte → List Byte → Instr := fun selector bytes => .cfgWrite .ml tag (selector :: b :: bytes)
    let globalRanges : List (Nat × Nat) :=
      [(0, 7), (1, 3), (1, 15), (1, 255), (1, 255), (1, 255), (1, 255), (1, 255), (0, 3), (0, 1), (0, 2), (0, 2), (0, 2),
        (0, 63), (0, 255)]
    let pointRanges : List (Nat × Nat) :=
      [(0, 1), (0, 1), (0, 1), (0, 7), (1, 3), (0, 127), (0, 255), (0, 255), (0, 255), (0, 255), (0, 255), (0, 255),
        (0, 255), (1, 255), (0, 1), (0, 7)]
    let fits : List (Nat × Nat) → Nat → Prop := fun ranges i =>
      ∀ x range, record[i]? = some x → ranges[i]? = some range → range.1 ≤ x.toNat ∧ x.toNat ≤ range.2
    ((∀ selector i bytes, payload = selector :: i :: bytes →
        ¬ (selector = 0 ∧ bytes.length = 15) ∧ ¬ (selector = 1 ∧ bytes.length = 16)) →
      exec (.cfgWrite .ml tag payload) s = .next (told 0x71 .badFrame .nothing s)) ∧
    (record.length = 15 →
      (s.cu.mode = .operate → exec (write 0 record) s = .next (told 0x71 .wrongMode .nothing s)) ∧
      ∀ i, s.cu.mode = .config → (∀ j < i, fits globalRanges j) → ¬ fits globalRanges i →
        exec (write 0 record) s = .next (told 0x71 .outOfRange (.fieldCode i) s)) ∧
    (record.length = 16 →
      (s.cu.mode = .operate → exec (write 1 record) s = .next (told 0x71 .wrongMode .nothing s)) ∧
      (s.cu.mode = .config → 64 ≤ b.toNat → exec (write 1 record) s = .next (told 0x71 .badIndex .nothing s)) ∧
      ∀ i, s.cu.mode = .config → b.toNat < 64 → (∀ j < i, fits pointRanges j) → ¬ fits pointRanges i →
        exec (write 1 record) s = .next (told 0x71 .outOfRange (.fieldCode i) s)) ∧
    (∀ g : GlobalCfg, s.cu.mode = .config → g.InRange →
      exec (write 0 (globalBytes g)) s =
        .next (told 0x71 .ok .nothing
          { s with cu := { s.cu with staging := { s.cu.staging with global := g } } })) ∧
    (∀ (p : Fin 64) (c : PointCfg), s.cu.mode = .config → b.toNat = p.val → c.InRange →
      exec (write 1 (pointBytes c)) s =
        .next (told 0x71 .ok .nothing
          { s with cu := { s.cu with
              staging := { s.cu.staging with points := s.cu.staging.points.put p c } } })) ∧
    ((∀ i x n, payload = [i, x, n] → 2 ≤ i.toNat ∨ 2 ≤ x.toNat) →
      exec (.cfgRead .ml tag payload) s = .next (told 0x72 .badFrame .nothing s)) ∧
    ∀ code image, (code, image) ∈ [((0 : Byte), s.cu.active), (1, s.cu.staging)] →
      (∃ index, exec (.cfgRead .ml tag [code, 0, b]) s =
        .next (told 0x72 .ok (.cfgRecord 0 index (.global image.global)) s)) ∧
      (64 ≤ b.toNat → exec (.cfgRead .ml tag [code, 1, b]) s = .next (told 0x72 .badIndex .nothing s)) ∧
      ∀ p : Fin 64, b.toNat = p.val →
        exec (.cfgRead .ml tag [code, 1, b]) s =
          .next (told 0x72 .ok (.cfgRecord 1 b (.point (image.points.at p))) s)

/-- Reading a canonical configuration record back gives the record, for every record in range, and only canonical
bytes of a record in range are read (R167, R188). The canonical records are the bytes of Table 11.10, each field at
its offset; the canonical form of an image is its global record and then its point records in ascending order, 1039
bytes, and its digest is the CRC-32 of those (R172). -/
def Obligations.ConfigurationRecordsRoundTrip : Prop :=
  (∀ g : GlobalCfg, g.InRange → readGlobal (globalBytes g) = .ok g) ∧
  (∀ (bytes : List Byte) (g : GlobalCfg), readGlobal bytes = .ok g → globalBytes g = bytes ∧ g.InRange) ∧
  (∀ c : PointCfg, c.InRange → readPointRecord (pointBytes c) = .ok c) ∧
  (∀ (bytes : List Byte) (c : PointCfg), readPointRecord bytes = .ok c → pointBytes c = bytes ∧ c.InRange) ∧
  (let byte : Nat → Byte := BitVec.ofNat 8
    let set : LaneSet → Byte := fun x => byte (x.a.toNat + 2 * x.b.toNat + 4 * x.c.toNat)
    let high : BitVec 16 → Byte := fun x => byte (x.toNat / 256)
    let low : BitVec 16 → Byte := fun x => byte (x.toNat % 256)
    (∀ g : GlobalCfg, globalBytes g =
      [set g.fitted,
        byte g.minMembers,
        byte g.strikeLimit,
        byte g.decayInterval,
        byte g.probationLength,
        byte g.beatTimeout,
        byte g.exclusionHold,
        byte g.echoTimeout,
        byte g.echoRetries,
        byte g.autoSuccession.toNat,
        byte g.ranks.a, byte g.ranks.b, byte g.ranks.c,
        byte (g.triggers.laneExcluded.toNat + 2 * g.triggers.pointFault.toNat + 4 * g.triggers.noDecision.toNat +
          8 * g.triggers.safeEntered.toNat + 16 * g.triggers.authorityLost.toNat + 32 * g.triggers.restart.toNat),
        byte g.postCount]) ∧
    ∀ c : PointCfg, pointBytes c =
      [byte c.enabled.toNat,
        (match c.kind with | .discrete => 0 | .level => 1),
        (match c.mode with | .majority => 0 | .authority => 1),
        set c.electorate,
        byte c.quorum,
        high (BitVec.ofNat 16 c.tolerance), low (BitVec.ofNat 16 c.tolerance),
        high c.min, low c.min, high c.max, low c.max, high c.safe, low c.safe,
        byte c.window,
        (match c.fallback with | .hold => 0 | .safe => 1),
        set c.notify]) ∧
  ∀ i : Image, i.bytes.length = 1039 ∧ i.bytes.take 15 = globalBytes i.global ∧
    (∀ p : Fin 64, (i.bytes.drop (15 + 16 * p.val)).take 16 = pointBytes (i.points.at p)) ∧ i.digest = crc32 i.bytes

/-- CFG_COMMIT (R13, R90, R169, R170): the refusals, what validation asks (Table 10.4), and which item it names: the
global checks first, then the checks of each enabled point in ascending order, each in the order of the table; a
commit that passes makes the staging image active, re-initialises the points and sets the lanes against the new fitted
mask, keeping authority, the safe condition and the time, and no link but for its own reply (R176). Its records are a
LANE record for each lane it changes, in the order A, B, C, and then the CONFIG record (R90, R170); none of them
triggers. Link effects: logs 6 to 8. -/
def Obligations.CommitMakesTheStagingImageActive : Prop :=
  (∀ i : Image,
    let fit := i.global.fitted
    let names : ItemCode → Option (Fin 64) → Prop := fun item p => validateImage i = some (item, p)
    let g1 : Prop := ∃ l, fit.get l = true
    let g2 : Prop := i.global.minMembers ≤ LaneSet.count fit
    let g3 : Prop := ∀ l m, fit.get l = true → fit.get m = true → l ≠ m →
      i.global.ranks.get l ≠ i.global.ranks.get m
    let p1 : PointCfg → Prop := fun c => ∃ l, c.electorate.get l = true
    let p2 : PointCfg → Prop := fun c => ∀ l, c.electorate.get l = true → fit.get l = true
    let p3 : PointCfg → Prop := fun c => c.quorum ≤ c.electorate.count
    let p4 : PointCfg → Prop := fun c => c.min.toInt ≤ c.safe.toInt ∧ c.safe.toInt ≤ c.max.toInt
    let p5 : PointCfg → Prop := fun c => c.kind = .discrete → c.tolerance = 0 ∧ c.min = 0 ∧ c.max = 1
    let passes : Fin 64 → Prop := fun p => let c := i.points.at p
      c.enabled = true → p1 c ∧ p2 c ∧ p3 c ∧ p4 c ∧ p5 c
    (validateImage i = none ↔ g1 ∧ g2 ∧ g3 ∧ ∀ p, passes p) ∧
    (names .noLane none ↔ ¬ g1) ∧ (names .minMembers none ↔ g1 ∧ ¬ g2) ∧ (names .ranks none ↔ g1 ∧ g2 ∧ ¬ g3) ∧
    ∀ p, let c := i.points.at p
      let reached : Prop := g1 ∧ g2 ∧ g3 ∧ (∀ q, q < p → passes q) ∧ c.enabled = true
      (names .electorateEmpty (some p) ↔ reached ∧ ¬ p1 c) ∧
      (names .electorateUnfitted (some p) ↔ reached ∧ p1 c ∧ ¬ p2 c) ∧
      (names .quorum (some p) ↔ reached ∧ p1 c ∧ p2 c ∧ ¬ p3 c) ∧
      (names .safeRange (some p) ↔ reached ∧ p1 c ∧ p2 c ∧ p3 c ∧ ¬ p4 c) ∧
      (names .discreteForm (some p) ↔ reached ∧ p1 c ∧ p2 c ∧ p3 c ∧ p4 c ∧ ¬ p5 c)) ∧
  ∀ (tag : Byte) (payload : List Byte) (s : State), s.TakesAtOnce .ml →
    let told : Result → ReplyFields → State := fun r f => s.replied .ml ⟨0x73, tag, r, f⟩
    let commit := Instr.cfgCommit .ml tag []
    let i := s.cu.staging
    (payload ≠ [] → exec (.cfgCommit .ml tag payload) s = .next (told .badFrame .nothing)) ∧
    (s.cu.mode = .operate → exec commit s = .next (told .wrongMode .nothing)) ∧
    (∀ item p, s.cu.mode = .config → validateImage i = some (item, p) →
      exec commit s = .next (told .invalidConfig (.invalid item p))) ∧
    (s.cu.mode = .config → validateImage i = none → (∀ l, (s.laneState l).joined = false) → s.SafetySound →
      ∃ t, exec commit s = .next t ∧ t.cu = ⟨.operate, i, i, i.digest, true⟩ ∧
        (t.au = s.au ∧ t.sc = s.sc ∧ t.time = s.time) ∧
        (∀ p, t.voteOf p = ⟨0, [], none⟩ ∧
          t.driveOf p =
            { target := (i.points.at p).safe
              confirmed := none
              status := if (i.points.at p).enabled = true then .queued else .idle
              budget := i.global.echoRetries
              lastTag := (s.driveOf p).lastTag }) ∧
        (t.du.queue = allPoints.filter (fun p => (i.points.at p).enabled) ∧ t.du.echoes = [] ∧
          t.du.tagCounter = s.du.tagCounter) ∧
        (∀ l, let e := { s.lane l with beatSeq := none }
          let changed : LaneState → LaneCause → LaneEntry := fun new cause =>
            { e with
              state := new
              lastCause := cause
              strikes := 0
              cleanRun := 0
              credit := 0
              beatDeadline := none
              holdDeadline := none }
          (s.laneState l = .absent → i.global.fitted.get l = true → t.lane l = changed .down .fitted) ∧
          (s.laneState l ≠ .absent → i.global.fitted.get l = false →
            t.lane l = changed .absent .unfitted ∧ (t.nu.get l).queue = [] ∧ (t.nu.get l).lost = 0) ∧
          ((s.laneState l = .absent ↔ i.global.fitted.get l = false) → t.lane l = e ∧ t.nu.get l = s.nu.get l)) ∧
        (s.ij.state = .recording → t.ij.state = .recording) ∧
        (let fitted : Lane → Bool := fun l => i.global.fitted.get l
         s.HasRecorded
          (([Lane.a, .b, .c].filter fun l => (s.laneState l != .absent) != fitted l).map (fun l =>
            (some l, .lane (s.laneState l) (if fitted l = true then .down else .absent)
              (if fitted l = true then .fitted else .unfitted) (s.lane l).strikes)) ++
          [(none, .config s.cu.digest i.digest i.global.fitted (!s.cu.committed))]) t) ∧
        t.lu = (told .ok (.digest i.digest)).lu)

/-- The mode, the images, the digest and the committed flag change only by a command of the maintenance link or of
RESET_N (R163, R164, R172, Table 8.1). -/
def Obligations.ConfigurationChangesOnlyFromMaintenance : Prop :=
  ∀ (c : Instr) (s t : State), c.fromMaintenance = false → exec c s = .next t → t.cu = s.cu

/-- STATUS (R173): any payload but one flag byte is answered BAD_FRAME; the report shows the part as it stands, and a
set clear-counts flag then clears the ten counts. Link effects: logs 6 to 8. -/
def Obligations.StatusReportsThePart : Prop :=
  ∀ (tag : Byte) (payload : List Byte) (s : State), s.TakesAtOnce .ml →
    let shown : Link → LinkReport := fun l => ⟨(s.link l).state, (s.link l).discarded, (s.link l).restarts⟩
    let cleared : Link → LinkUnit := fun l => { s.link l with discarded := 0, restarts := 0 }
    let report : Reply := ⟨0x78, tag, .ok, .status
      { mode := s.cu.mode
        committed := s.cu.committed
        digest := s.cu.digest
        safe := s.sc.flag
        lanes := ⟨s.laneState .a, s.laneState .b, s.laneState .c⟩
        strikes := ⟨(s.lane .a).strikes, (s.lane .b).strikes, (s.lane .c).strikes⟩
        holder := s.au.holder
        epoch := s.au.epoch
        journal := s.ij.state
        links := [shown .la, shown .lb, shown .lc, shown .dl, shown .ml]
        time := s.time }⟩
    (payload ≠ [0] → payload ≠ [1] →
      exec (.status .ml tag payload) s = .next (s.replied .ml ⟨0x78, tag, .badFrame, .nothing⟩)) ∧
    exec (.status .ml tag [0]) s = .next (s.replied .ml report) ∧
    exec (.status .ml tag [1]) s =
      .next (({ s with lu := ⟨cleared .la, cleared .lb, cleared .lc, cleared .dl, cleared .ml⟩ } : State).replied .ml
        report)

/-! ### Frames and links -/

/-- The kind checks (R138, Table 8.1, Table 11.4): the codes of the request kinds; BAD_KIND for every other code;
NOT_PERMITTED for the configuration requests and STATUS on a lane link and for BEAT on the maintenance link. Link
effects: logs 6 to 8. -/
def Obligations.KindsAreCheckedFirst : Prop :=
  (∀ kind : Byte, requestKind kind = none ↔
    kind ∉ ([0x10, 0x20, 0x21, 0x22, 0x30, 0x31, 0x32, 0x40, 0x50, 0x51, 0x60, 0x61, 0x70, 0x71, 0x72, 0x73, 0x74, 0x78] :
      List Byte)) ∧
  ∀ (link : ReqLink) (kind tag : Byte) (payload : List Byte) (s : State), s.TakesAtOnce link →
    (requestKind kind = none →
      exec (.badKind link kind tag payload) s = .next (s.replied link ⟨kind, tag, .badKind, .nothing⟩)) ∧
    (link = .ml →
      exec (.beat link tag payload) s = .next (s.replied link ⟨0x22, tag, .notPermitted, .nothing⟩)) ∧
    ∀ l, link = .lane l →
      ∀ code c, (code, c) ∈ [((0x70 : Byte), Instr.cfgOpen link tag payload), (0x71, .cfgWrite link tag payload),
          (0x72, .cfgRead link tag payload), (0x73, .cfgCommit link tag payload), (0x74, .cfgAbort link tag payload),
          (0x78, .status link tag payload)] →
        exec c s = .next (s.replied link ⟨code, tag, .notPermitted, .nothing⟩)

/-- The check of a received frame accepts exactly the frames that the sender's rule makes, and reads back their kind,
tag and payload (R180). What the part sends passes it, with the kinds of Table 11.4, the tags of R185 and the payloads
of Tables 11.6 to 11.8 (R186); the fields of a payload are those of R184, the enumerated codes those of Tables 11.5,
8.2 and 8.3. In RUN with a frame in progress the line carries that frame, in RUN without one, in READY and in WAKING
IDLE, in OFF nothing (Table 11.1, R182). -/
def Obligations.FramesRoundTrip : Prop :=
  (∀ (data : List Byte) (f : GoodFrame),
    checkFrame data = some f ↔ data = frameBytes f.kind f.tag f.payload ∧ f.payload.length ≤ 128) ∧
  (let byte : Nat → Byte := BitVec.ofNat 8
    let sent : TxFrame → Byte → Byte → List Byte → Prop := fun f kind tag payload =>
      payload.length ≤ 128 → checkFrame f.bytes = some ⟨kind, tag, payload⟩
    (∀ (p : Fin 64) tag v, sent (.apply p tag v) 0xA0 tag ([byte p.val] ++ be16 v)) ∧
    (∀ seq lost,
      let told : Notice → Byte → List Byte → Prop := fun n kind fields =>
        sent (.notice seq lost n) kind seq ([byte lost] ++ fields)
      (∀ l old new cause members, told (.lane l old new cause members) 0x90
        [laneByte l, old.code, new.code, cause.code, laneSetByte members]) ∧
      (∀ old new epoch cause claims, claims.length ≤ 2 → told (.authority old new epoch cause claims) 0x91
        ([laneByte? old, laneByte? new] ++ be16 epoch ++ [cause.code, byte claims.length] ++
          (claims.map laneByte ++ [0xFF, 0xFF]).take 2)) ∧
      (∀ r, told (.outcome r) 0x92 (outcomeLayout r)) ∧
      (∀ (p : Fin 64) cleared v tag cause readback, told (.pointFault p cleared v tag cause readback) 0x93
        ([byte p.val, flagByte cleared] ++ be16 v ++ tag? tag ++ [applyCauseByte? cause] ++ value? readback)) ∧
      (∀ direction members least, told (.safe direction members least) 0x94
        [direction.code, byte members, byte least]) ∧
      (∀ trigger kind subject newest, told (.journalFrozen trigger kind subject newest) 0x95
        (be32 trigger ++ [kind.code, laneByte? subject] ++ be32 newest)) ∧
      ∀ voters threshold, told (.restartExpired voters threshold) 0x96 [laneSetByte voters, byte threshold]) ∧
    ∀ kind tag (result : Result),
      let told : ReplyFields → List Byte → Prop := fun fields bytes =>
        sent (.reply ⟨kind, tag, result, fields⟩) 0x80 tag ([kind, result.code] ++ bytes)
      told .nothing [] ∧
      (∀ results, told (.entries results) ([byte results.length] ++ results.map EntryResult.code)) ∧
      (∀ d, told (.digest d) (be32 d)) ∧
      (∀ left cause, told (.excluded left cause) (be16 (BitVec.ofNat 16 left) ++ [cause.code])) ∧
      (∀ r, told (.state r)
        ([r.mode.code, flagByte r.safe, r.own.code, byte r.strikes, laneSetByte r.members, laneByte? r.holder] ++
          be16 r.epoch ++ be32 r.digest ++ be32 r.time ++ [flagByte r.gap])) ∧
      (∀ e, told (.epoch e) (be16 e)) ∧
      (∀ n, told (.position n) [byte n]) ∧
      (∀ e holder, told (.yielded e holder) (be16 e ++ [laneByte? holder])) ∧
      (∀ count threshold left, told (.votes count threshold left)
        ([byte count, byte threshold] ++ be16 (BitVec.ofNat 16 left))) ∧
      (∀ r, told (.point r)
        ([byte r.point.val] ++ pointBytes r.cfg ++ be16 r.next ++ [byte r.slots.length] ++
          (r.slots.flatMap fun x =>
            be16 x.serial ++ [x.state.code, byte x.timeLeft, laneSetByte x.roll, laneSetByte x.proposers]) ++
          (match r.last with
            | none => List.replicate 13 0
            | some c => [1] ++ be16 c.serial ++ [c.cause.code, c.outcome.code] ++ value? c.decided ++
                [flagByte c.withheld] ++ be32 c.time) ++
          be16 r.target ++ value? r.confirmed ++ [r.status.code, byte r.retries])) ∧
      (∀ (p : Fin 64) v, told (.cleared p v) ([byte p.val] ++ be16 v)) ∧
      (∀ r, told (.journal r)
        ([r.state.code] ++ word32? r.oldest ++ word32? r.newest ++ word32? r.trigger ++
          be16 (BitVec.ofNat 16 r.dropped) ++ [flagByte r.gap, byte r.records.length] ++
          r.records.flatMap Record.bytes)) ∧
      (∀ seq, told (.sequence seq) (be32 seq)) ∧
      (∀ code, told (.fieldCode code) [byte code]) ∧
      (∀ index g, told (.cfgRecord 0 index (.global g)) ([0, index] ++ globalBytes g)) ∧
      (∀ index c, told (.cfgRecord 1 index (.point c)) ([1, index] ++ pointBytes c)) ∧
      (∀ item, told (.invalid item none) [item.code, 0xFF]) ∧
      (∀ item (p : Fin 64), told (.invalid item (some p)) [item.code, byte p.val]) ∧
      ∀ r, told (.status r)
        ([r.mode.code, flagByte r.committed] ++ be32 r.digest ++ [flagByte r.safe] ++
          [r.lanes.a.code, r.lanes.b.code, r.lanes.c.code] ++ [byte r.strikes.a, byte r.strikes.b, byte r.strikes.c] ++
          [laneByte? r.holder] ++ be16 r.epoch ++ [r.journal.code] ++
          (r.links.flatMap fun l => [l.state.code, byte l.discarded, byte l.restarts]) ++ be32 r.time)) ∧
  (let byte : Nat → Byte := BitVec.ofNat 8;
    (∀ x, be16 x = [byte (x.toNat / 256), byte (x.toNat % 256)]) ∧
    (∀ x, be32 x = [byte (x.toNat / 16777216), byte (x.toNat / 65536), byte (x.toNat / 256), byte x.toNat]) ∧
    [Lane.a, .b, .c].map laneByte = [0, 1, 2] ∧ laneByte? none = 0xFF ∧ (∀ l, laneByte? (some l) = laneByte l) ∧
    (∀ x : LaneSet, laneSetByte x = byte (x.a.toNat + 2 * x.b.toNat + 4 * x.c.toNat)) ∧
    (∀ b, flagByte b = byte b.toNat) ∧
    applyCauseByte? none = 0xFF ∧ (∀ c, applyCauseByte? (some c) = c.code) ∧
    value? none = [0, 0, 0] ∧ (∀ v, value? (some v) = [1] ++ be16 v) ∧
    tag? none = [0, 0] ∧ (∀ t, tag? (some t) = [1, t]) ∧
    word32? none = [0, 0, 0, 0, 0] ∧ ∀ v, word32? (some v) = [1] ++ be32 v) ∧
  (let upTo : Nat → List Byte := fun n => (List.range n).map (BitVec.ofNat 8);
    [LaneState.absent, .down, .probation, .member, .excluded].map LaneState.code = upTo 5 ∧
    [Mode.config, .operate].map Mode.code = upTo 2 ∧
    [SlotState.opened, .ripe .complete, .ripe .expired].map SlotState.code = upTo 3 ∧
    [CloseCause.complete, .expired].map CloseCause.code = upTo 2 ∧
    [VoteOutcome.unanimous, .majority, .agreed, .single, .holderDecided, .split, .short, .empty, .noAuthority].map
      VoteOutcome.code = upTo 9 ∧
    [Mark.agree, .dissent, .neutral, .missed, .observerOk, .observerFail].map Mark.code = upTo 6 ∧
    [LaneCause.founded, .joined, .probationPassed, .probationFailed, .noMember, .miscompare, .missed, .selfReported,
      .beatLost, .left, .linkLost, .holdEnded, .restart, .fitted, .unfitted, .powerOn].map LaneCause.code = upTo 16 ∧
    [AuthCause.claimed, .yielded, .succeededQueue, .succeededRank, .lost, .restart].map AuthCause.code = upTo 6 ∧
    [DriveStatus.idle, .queued, .inFlight, .faulted].map DriveStatus.code = upTo 4 ∧
    [ApplyCause.timeout, .mismatch, .rejected, .cleared].map ApplyCause.code = upTo 4 ∧
    [EchoStatus.done, .rejected].map EchoStatus.code = upTo 2 ∧
    [Link.la, .lb, .lc, .dl, .ml].map linkByte = upTo 5 ∧
    [LinkState.off, .waking, .ready, .run].map LinkState.code = upTo 4 ∧
    [LinkCause.handshake, .code, .silence, .credit, .framing, .disabled].map linkCauseByte = upTo 6 ∧
    [JournalState.recording, .postTrigger, .frozen].map JournalState.code = upTo 3 ∧
    [RecordKind.outcome, .lane, .authority, .applyFail, .strayEcho, .link, .safe, .restart, .config, .rearm].map
      RecordKind.code = upTo 10 ∧
    [RestartKind.laneVoted, .maintenance].map RestartKind.code = upTo 2 ∧
    [SafeDirection.entered, .exited].map SafeDirection.code = upTo 2 ∧
    [ItemCode.noLane, .minMembers, .ranks, .electorateEmpty, .electorateUnfitted, .quorum, .safeRange, .discreteForm].map
      ItemCode.code = upTo 8 ∧
    [Result.ok, .badFrame, .badKind, .notPermitted, .wrongMode, .notMember, .notFitted, .alreadyJoined, .digestMismatch,
      .excluded, .founded, .probation, .granted, .queued, .alreadyHolder, .duplicate, .notQueued, .notHolder, .staleEpoch,
      .notFaulted, .pending, .restarted, .busy, .invalidConfig, .noActive, .badIndex, .outOfRange, .notFrozen,
      .subjectLane].map Result.code = upTo 29 ∧
    [EntryResult.accepted, .notMember, .pointDisabled, .notElector, .outOfRange, .stale, .ahead, .notOnRoll, .duplicate,
      .late].map EntryResult.code = upTo 10) ∧
  ∀ u : LinkUnit,
    (u.state = .off → u.line = .silent) ∧ (u.state = .waking ∨ u.state = .ready → u.line = .idle) ∧
    (u.state = .run → (u.sending = none → u.line = .idle) ∧ ∀ f, u.sending = some f → u.line = .frame f.bytes)

/-- How a link comes up (R175, R176, R177, R179), by BACKOFF_EXPIRY, IDLE and GRANT, and how LINK_ENABLE and
LINK_DISABLE take the fitted mask (R176, R183; that they read the active image's mask when taken is log 14). Link
effects: logs 6 to 8. Deadlines reached: log 5. A command whose event cannot occur changes nothing: log 3. -/
def Obligations.LinksComeUp : Prop :=
  ∀ (l : Link) (n : Lane) (s : State), s.resetN = .high →
    let u := s.link l
    let due := u.state = .off ∧ u.enabled = true ∧ ∃ d, u.backoff = some d ∧ timeReached s.time d = true
    let quiet : Option Time := some (s.time + 1)
    (due → exec (.backoffExpiry l) s = .next (s.putLink l { u with state := .waking, backoff := none })) ∧
    (¬ due → exec (.backoffExpiry l) s = .next s) ∧
    (u.state = .off → exec (.idleReceived l) s = .next s ∧ exec (.grant l) s = .next s) ∧
    (u.state = .waking →
      exec (.idleReceived l) s = .next (s.putLink l { u with
        state := .ready, handshake := some (s.time + 10), silence := quiet, peerCredit := 4 - u.waiting.length }) ∧
      exec (.grant l) s = .next s) ∧
    (u.state = .ready →
      exec (.idleReceived l) s = .next (s.putLink l { u with silence := quiet }) ∧
      exec (.grant l) s =
        .next (s.putLink l { u with state := .run, credit := 1, handshake := none, silence := quiet })) ∧
    (u.state = .run →
      exec (.idleReceived l) s = .next (s.putLink l { u with silence := quiet }) ∧
      (u.credit < 4 →
        exec (.grant l) s = .next (s.putLink l { u with credit := u.credit + 1, silence := quiet }))) ∧
    let v := s.link n.link
    let off := ({ v with enabled := false } : LinkUnit).fallen s.time
    (s.global.fitted.get n = true → v.enabled = false → v.state = .off →
      exec (.linkEnable n) s = .next (s.putLink n.link { v with enabled := true, backoff := some (s.time + 10) })) ∧
    (s.global.fitted.get n = false ∨ v.enabled = true → exec (.linkEnable n) s = .next s) ∧
    (s.global.fitted.get n = false → v.enabled = true → (s.laneState n).joined = false →
      exec (.linkDisable n) s =
        .next (if v.state.up = true then
          (s.putLink n.link off).submit (some n) (.link n.link v.state .off .disabled)
        else s.putLink n.link off)) ∧
    (s.global.fitted.get n = true ∨ v.enabled = false → exec (.linkDisable n) s = .next s)

/-- A link error takes the link from READY or RUN to OFF with the cause of Table 11.2, its record made (R177, R178,
R183); a PROBATION or MEMBER lane whose link leaves RUN departs with cause LINK_LOST (R85), its LINK record behind the
records of the departure (R183 steps 4 and 5). In OFF and WAKING it
changes nothing, and a timer's command before its time changes nothing. That a START inside a frame that holds the last
free buffer gives FRAMING is the model's choice (log 22, DESIGN CHOICE). Link effects: logs 6 to 8. Deadlines reached:
log 5. A command whose event cannot occur changes nothing: log 3. -/
def Obligations.LinkErrorsTakeTheLinkDown : Prop :=
  ∀ (l : Link) (s : State), s.resetN = .high →
    (∀ c cause, s.LinkFails l c cause →
      ((s.link l).state.up = false → exec c s = .next s) ∧
      ((s.link l).state.up = true →
        ((s.link l).state = .ready ∨ (∀ n, l.lane? = some n → (s.laneState n).joined = false) →
          exec c s = .next ((s.putLink l ((s.link l).fallen s.time)).submit l.lane?
            (.link l (s.link l).state .off cause))) ∧
        ∀ n, l.lane? = some n → (s.link l).state = .run → (s.laneState n).joined = true →
          let out : LaneState := if s.laneState n = .member then .excluded else .down
          let record : RecordBody := .link l .run .off cause
          ∃ t, exec c s = .next t ∧ t.link l = (s.link l).fallen s.time ∧ t.cu = s.cu ∧
            s.HasDeparted n out .linkLost t ∧
            (∃ u, s.HasDeparted n out .linkLost u ∧ t = u.submit (some n) record) ∧
            (t.ij.state ≠ .frozen → ∃ k : Nat, 1 ≤ k ∧ k ≤ 5 ∧ t.ij.counter = s.ij.counter + BitVec.ofNat 32 (k + 1) ∧
              t.ij.ring.getLast? = some ⟨s.ij.counter + BitVec.ofNat 32 k, s.time, some n, record⟩))) ∧
    (∀ d, (s.link l).silence = some d → timeReached s.time d = false → exec (.silenceTimeout l) s = .next s) ∧
    (∀ d, (s.link l).handshake = some d → timeReached s.time d = false → exec (.handshakeExpiry l) s = .next s) ∧
    ((s.link l).waiting.length < 4 → exec (.startNoFreeBuffer l) s = .next s)

/-- Frames received (R137, R179, R180, R181): ABANDON leaves no count, a discarded frame raises it by one up to 255; a
request waits in its buffer while 4 replies are owed, is ignored in OFF and WAKING, and with no free buffer is a START
that finds none. Frames sent (R136, R137, R146, R147, R148, R182): a reply before a notice, one credit each, the
notice with the lane's sequence and lost count; at its END a reply leaves the queue and the oldest request that waited
is taken. That the reply stays at the head of its queue until its END is log 9, that FRAME_SENT takes the waiting
request within its own step log 10 (DESIGN CHOICE): both are the model's choices. Link effects: logs 6 to 8. A command
whose event cannot occur changes nothing: log 3. -/
def Obligations.FramesAreReceivedAndSent : Prop :=
  ∀ s : State, s.resetN = .high →
    (∀ (l : Link) (data : List Byte),
      ((s.link l).state.up = false → exec (.abandon l) s = .next s ∧ exec (.discardedFrame l data) s = .next s) ∧
      ((s.link l).state.up = true → (s.link l).waiting.length < 4 →
        exec (.abandon l) s = .next (s.frameHeard l) ∧
        (discards l data = true → data.length ≤ 133 →
          exec (.discardedFrame l data) s = .next (s.putLink l { s.link l with
            silence := some (s.time + 1), discarded := min 255 ((s.link l).discarded + 1) })))) ∧
    (∀ (c : Instr) (link : ReqLink) (r : Request), c.request? = some (link, r) →
      let u := s.link link.link
      (u.state.up = false → exec c s = .next s) ∧
      (u.state.up = true → 4 ≤ u.waiting.length → exec c s = exec (.startNoFreeBuffer link.link) s) ∧
      (u.state.up = true → u.waiting.length < 4 → 4 ≤ u.replies.length →
        exec c s = .next (s.putLink link.link { u with
          silence := some (s.time + 1), waiting := u.waiting ++ [r], peerCredit := u.peerCredit - 1 }))) ∧
    (∀ link : ReqLink, let u := s.link link.link
      (∀ r rest, u.replies = r :: rest → u.state = .run → 1 ≤ u.credit → u.sending = none →
        exec (.sendReply link) s =
          .next (s.putLink link.link { u with credit := u.credit - 1, sending := some (.reply r) })) ∧
      (u.replies = [] ∨ u.state ≠ .run ∨ u.credit = 0 ∨ u.sending ≠ none → exec (.sendReply link) s = .next s) ∧
      (∀ r, u.sending = some (.reply r) → u.waiting = [] →
        exec (.frameSent link.link) s =
          .next (s.putLink link.link { u with sending := none, replies := u.replies.tail })) ∧
      (∀ x r rest, u.sending = some (.reply x) → u.waiting = r :: rest → u.replies.length = 4 →
        ∃ t reply, exec (.frameSent link.link) s = .next t ∧ (t.link link.link).waiting = rest ∧
          (t.link link.link).replies = u.replies.tail ++ [reply] ∧ reply.kind = r.kind ∧ reply.tag = r.tag)) ∧
    (∀ n : Lane, let u := s.link n.link
      (∀ x rest, (s.nu.get n).queue = x :: rest → u.replies = [] → u.state = .run → 1 ≤ u.credit → u.sending = none →
        exec (.sendNotice n) s =
          .next { s with
            lu := s.lu.set n.link { u with
              credit := u.credit - 1
              sending := some (.notice (s.nu.get n).seq (s.nu.get n).lost x) }
            nu := s.nu.set n ⟨rest, 0, (s.nu.get n).seq + 1⟩ }) ∧
      ((s.nu.get n).queue = [] ∨ u.replies ≠ [] ∨ u.state ≠ .run ∨ u.credit = 0 ∨ u.sending ≠ none →
        exec (.sendNotice n) s = .next s)) ∧
    ∀ l : Link,
      ((s.link l).sending = none → exec (.frameSent l) s = .next s) ∧
      ∀ f, (s.link l).sending = some f → (∀ r, f ≠ .reply r) →
        exec (.frameSent l) s = .next (s.putLink l { s.link l with sending := none })
end

