-- ==== Sys2Proof/Laws/State.lean ====
section
/-! SUPPORT. What each named update of the state leaves of every field and of every reading of the state: one lemma per
field and update, so that no later proof unfolds a record update. -/

namespace Sys2Proof.Machine

variable (s : State)

/-! ### `State.putVote` -/

@[simp] theorem State.putVote_resetN (p : Fin 64) (v : VotePart) : (s.putVote p v).resetN = s.resetN := rfl
@[simp] theorem State.putVote_straps (p : Fin 64) (v : VotePart) : (s.putVote p v).straps = s.straps := rfl
@[simp] theorem State.putVote_time (p : Fin 64) (v : VotePart) : (s.putVote p v).time = s.time := rfl
@[simp] theorem State.putVote_cu (p : Fin 64) (v : VotePart) : (s.putVote p v).cu = s.cu := rfl
@[simp] theorem State.putVote_ve (p : Fin 64) (v : VotePart) : (s.putVote p v).ve = s.ve.put p v := rfl
@[simp] theorem State.putVote_du (p : Fin 64) (v : VotePart) : (s.putVote p v).du = s.du := rfl
@[simp] theorem State.putVote_lm (p : Fin 64) (v : VotePart) : (s.putVote p v).lm = s.lm := rfl
@[simp] theorem State.putVote_au (p : Fin 64) (v : VotePart) : (s.putVote p v).au = s.au := rfl
@[simp] theorem State.putVote_sc (p : Fin 64) (v : VotePart) : (s.putVote p v).sc = s.sc := rfl
@[simp] theorem State.putVote_nu (p : Fin 64) (v : VotePart) : (s.putVote p v).nu = s.nu := rfl
@[simp] theorem State.putVote_ij (p : Fin 64) (v : VotePart) : (s.putVote p v).ij = s.ij := rfl
@[simp] theorem State.putVote_lu (p : Fin 64) (v : VotePart) : (s.putVote p v).lu = s.lu := rfl
@[simp] theorem State.putVote_pending (p : Fin 64) (v : VotePart) : (s.putVote p v).pending = s.pending := rfl
@[simp] theorem State.putVote_global (p : Fin 64) (v : VotePart) : (s.putVote p v).global = s.global := rfl
@[simp] theorem State.putVote_cfgOf (p : Fin 64) (v : VotePart) (q : Fin 64) :
    (s.putVote p v).cfgOf q = s.cfgOf q := rfl
@[simp] theorem State.putVote_driveOf (p : Fin 64) (v : VotePart) (q : Fin 64) :
    (s.putVote p v).driveOf q = s.driveOf q := rfl
@[simp] theorem State.putVote_lane (p : Fin 64) (v : VotePart) (m : Lane) : (s.putVote p v).lane m = s.lane m := rfl
@[simp] theorem State.putVote_laneState (p : Fin 64) (v : VotePart) (m : Lane) :
    (s.putVote p v).laneState m = s.laneState m := rfl
@[simp] theorem State.putVote_members (p : Fin 64) (v : VotePart) : (s.putVote p v).members = s.members := rfl
@[simp] theorem State.putVote_memberCount (p : Fin 64) (v : VotePart) :
    (s.putVote p v).memberCount = s.memberCount := rfl
@[simp] theorem State.putVote_joined (p : Fin 64) (v : VotePart) : (s.putVote p v).joined = s.joined := rfl
@[simp] theorem State.putVote_link (p : Fin 64) (v : VotePart) (k : Link) : (s.putVote p v).link k = s.link k := rfl

/-! ### `State.putSlots` -/

@[simp] theorem State.putSlots_resetN (p : Fin 64) (x : List Slot) : (s.putSlots p x).resetN = s.resetN := rfl
@[simp] theorem State.putSlots_straps (p : Fin 64) (x : List Slot) : (s.putSlots p x).straps = s.straps := rfl
@[simp] theorem State.putSlots_time (p : Fin 64) (x : List Slot) : (s.putSlots p x).time = s.time := rfl
@[simp] theorem State.putSlots_cu (p : Fin 64) (x : List Slot) : (s.putSlots p x).cu = s.cu := rfl
@[simp] theorem State.putSlots_ve (p : Fin 64) (x : List Slot) :
    (s.putSlots p x).ve = s.ve.put p { s.voteOf p with slots := x } := rfl
@[simp] theorem State.putSlots_du (p : Fin 64) (x : List Slot) : (s.putSlots p x).du = s.du := rfl
@[simp] theorem State.putSlots_lm (p : Fin 64) (x : List Slot) : (s.putSlots p x).lm = s.lm := rfl
@[simp] theorem State.putSlots_au (p : Fin 64) (x : List Slot) : (s.putSlots p x).au = s.au := rfl
@[simp] theorem State.putSlots_sc (p : Fin 64) (x : List Slot) : (s.putSlots p x).sc = s.sc := rfl
@[simp] theorem State.putSlots_nu (p : Fin 64) (x : List Slot) : (s.putSlots p x).nu = s.nu := rfl
@[simp] theorem State.putSlots_ij (p : Fin 64) (x : List Slot) : (s.putSlots p x).ij = s.ij := rfl
@[simp] theorem State.putSlots_lu (p : Fin 64) (x : List Slot) : (s.putSlots p x).lu = s.lu := rfl
@[simp] theorem State.putSlots_pending (p : Fin 64) (x : List Slot) : (s.putSlots p x).pending = s.pending := rfl
@[simp] theorem State.putSlots_global (p : Fin 64) (x : List Slot) : (s.putSlots p x).global = s.global := rfl
@[simp] theorem State.putSlots_cfgOf (p : Fin 64) (x : List Slot) (q : Fin 64) :
    (s.putSlots p x).cfgOf q = s.cfgOf q := rfl
@[simp] theorem State.putSlots_driveOf (p : Fin 64) (x : List Slot) (q : Fin 64) :
    (s.putSlots p x).driveOf q = s.driveOf q := rfl
@[simp] theorem State.putSlots_lane (p : Fin 64) (x : List Slot) (m : Lane) :
    (s.putSlots p x).lane m = s.lane m := rfl
@[simp] theorem State.putSlots_laneState (p : Fin 64) (x : List Slot) (m : Lane) :
    (s.putSlots p x).laneState m = s.laneState m := rfl
@[simp] theorem State.putSlots_members (p : Fin 64) (x : List Slot) : (s.putSlots p x).members = s.members := rfl
@[simp] theorem State.putSlots_memberCount (p : Fin 64) (x : List Slot) :
    (s.putSlots p x).memberCount = s.memberCount := rfl
@[simp] theorem State.putSlots_joined (p : Fin 64) (x : List Slot) : (s.putSlots p x).joined = s.joined := rfl
@[simp] theorem State.putSlots_link (p : Fin 64) (x : List Slot) (k : Link) :
    (s.putSlots p x).link k = s.link k := rfl

/-! ### `State.putLane` -/

@[simp] theorem State.putLane_resetN (l : Lane) (e : LaneEntry) : (s.putLane l e).resetN = s.resetN := rfl
@[simp] theorem State.putLane_straps (l : Lane) (e : LaneEntry) : (s.putLane l e).straps = s.straps := rfl
@[simp] theorem State.putLane_time (l : Lane) (e : LaneEntry) : (s.putLane l e).time = s.time := rfl
@[simp] theorem State.putLane_cu (l : Lane) (e : LaneEntry) : (s.putLane l e).cu = s.cu := rfl
@[simp] theorem State.putLane_ve (l : Lane) (e : LaneEntry) : (s.putLane l e).ve = s.ve := rfl
@[simp] theorem State.putLane_du (l : Lane) (e : LaneEntry) : (s.putLane l e).du = s.du := rfl
@[simp] theorem State.putLane_lm (l : Lane) (e : LaneEntry) : (s.putLane l e).lm = s.lm.set l e := rfl
@[simp] theorem State.putLane_au (l : Lane) (e : LaneEntry) : (s.putLane l e).au = s.au := rfl
@[simp] theorem State.putLane_sc (l : Lane) (e : LaneEntry) : (s.putLane l e).sc = s.sc := rfl
@[simp] theorem State.putLane_nu (l : Lane) (e : LaneEntry) : (s.putLane l e).nu = s.nu := rfl
@[simp] theorem State.putLane_ij (l : Lane) (e : LaneEntry) : (s.putLane l e).ij = s.ij := rfl
@[simp] theorem State.putLane_lu (l : Lane) (e : LaneEntry) : (s.putLane l e).lu = s.lu := rfl
@[simp] theorem State.putLane_pending (l : Lane) (e : LaneEntry) : (s.putLane l e).pending = s.pending := rfl
@[simp] theorem State.putLane_global (l : Lane) (e : LaneEntry) : (s.putLane l e).global = s.global := rfl
@[simp] theorem State.putLane_cfgOf (l : Lane) (e : LaneEntry) (q : Fin 64) :
    (s.putLane l e).cfgOf q = s.cfgOf q := rfl
@[simp] theorem State.putLane_voteOf (l : Lane) (e : LaneEntry) (q : Fin 64) :
    (s.putLane l e).voteOf q = s.voteOf q := rfl
@[simp] theorem State.putLane_driveOf (l : Lane) (e : LaneEntry) (q : Fin 64) :
    (s.putLane l e).driveOf q = s.driveOf q := rfl
@[simp] theorem State.putLane_link (l : Lane) (e : LaneEntry) (k : Link) : (s.putLane l e).link k = s.link k := rfl

/-! ### `State.putLink` -/

@[simp] theorem State.putLink_resetN (l : Link) (u : LinkUnit) : (s.putLink l u).resetN = s.resetN := rfl
@[simp] theorem State.putLink_straps (l : Link) (u : LinkUnit) : (s.putLink l u).straps = s.straps := rfl
@[simp] theorem State.putLink_time (l : Link) (u : LinkUnit) : (s.putLink l u).time = s.time := rfl
@[simp] theorem State.putLink_cu (l : Link) (u : LinkUnit) : (s.putLink l u).cu = s.cu := rfl
@[simp] theorem State.putLink_ve (l : Link) (u : LinkUnit) : (s.putLink l u).ve = s.ve := rfl
@[simp] theorem State.putLink_du (l : Link) (u : LinkUnit) : (s.putLink l u).du = s.du := rfl
@[simp] theorem State.putLink_lm (l : Link) (u : LinkUnit) : (s.putLink l u).lm = s.lm := rfl
@[simp] theorem State.putLink_au (l : Link) (u : LinkUnit) : (s.putLink l u).au = s.au := rfl
@[simp] theorem State.putLink_sc (l : Link) (u : LinkUnit) : (s.putLink l u).sc = s.sc := rfl
@[simp] theorem State.putLink_nu (l : Link) (u : LinkUnit) : (s.putLink l u).nu = s.nu := rfl
@[simp] theorem State.putLink_ij (l : Link) (u : LinkUnit) : (s.putLink l u).ij = s.ij := rfl
@[simp] theorem State.putLink_lu (l : Link) (u : LinkUnit) : (s.putLink l u).lu = s.lu.set l u := rfl
@[simp] theorem State.putLink_pending (l : Link) (u : LinkUnit) : (s.putLink l u).pending = s.pending := rfl
@[simp] theorem State.putLink_global (l : Link) (u : LinkUnit) : (s.putLink l u).global = s.global := rfl
@[simp] theorem State.putLink_cfgOf (l : Link) (u : LinkUnit) (q : Fin 64) :
    (s.putLink l u).cfgOf q = s.cfgOf q := rfl
@[simp] theorem State.putLink_voteOf (l : Link) (u : LinkUnit) (q : Fin 64) :
    (s.putLink l u).voteOf q = s.voteOf q := rfl
@[simp] theorem State.putLink_driveOf (l : Link) (u : LinkUnit) (q : Fin 64) :
    (s.putLink l u).driveOf q = s.driveOf q := rfl
@[simp] theorem State.putLink_lane (l : Link) (u : LinkUnit) (m : Lane) : (s.putLink l u).lane m = s.lane m := rfl
@[simp] theorem State.putLink_laneState (l : Link) (u : LinkUnit) (m : Lane) :
    (s.putLink l u).laneState m = s.laneState m := rfl
@[simp] theorem State.putLink_members (l : Link) (u : LinkUnit) : (s.putLink l u).members = s.members := rfl
@[simp] theorem State.putLink_memberCount (l : Link) (u : LinkUnit) :
    (s.putLink l u).memberCount = s.memberCount := rfl
@[simp] theorem State.putLink_joined (l : Link) (u : LinkUnit) : (s.putLink l u).joined = s.joined := rfl

/-! ### `State.notify` -/

@[simp] theorem State.notify_resetN (r : LaneSet) (n : Notice) : (s.notify r n).resetN = s.resetN := rfl
@[simp] theorem State.notify_straps (r : LaneSet) (n : Notice) : (s.notify r n).straps = s.straps := rfl
@[simp] theorem State.notify_time (r : LaneSet) (n : Notice) : (s.notify r n).time = s.time := rfl
@[simp] theorem State.notify_cu (r : LaneSet) (n : Notice) : (s.notify r n).cu = s.cu := rfl
@[simp] theorem State.notify_ve (r : LaneSet) (n : Notice) : (s.notify r n).ve = s.ve := rfl
@[simp] theorem State.notify_du (r : LaneSet) (n : Notice) : (s.notify r n).du = s.du := rfl
@[simp] theorem State.notify_lm (r : LaneSet) (n : Notice) : (s.notify r n).lm = s.lm := rfl
@[simp] theorem State.notify_au (r : LaneSet) (n : Notice) : (s.notify r n).au = s.au := rfl
@[simp] theorem State.notify_sc (r : LaneSet) (n : Notice) : (s.notify r n).sc = s.sc := rfl
@[simp] theorem State.notify_ij (r : LaneSet) (n : Notice) : (s.notify r n).ij = s.ij := rfl
@[simp] theorem State.notify_lu (r : LaneSet) (n : Notice) : (s.notify r n).lu = s.lu := rfl
@[simp] theorem State.notify_pending (r : LaneSet) (n : Notice) : (s.notify r n).pending = s.pending := rfl
@[simp] theorem State.notify_global (r : LaneSet) (n : Notice) : (s.notify r n).global = s.global := rfl
@[simp] theorem State.notify_cfgOf (r : LaneSet) (n : Notice) (q : Fin 64) : (s.notify r n).cfgOf q = s.cfgOf q := rfl
@[simp] theorem State.notify_voteOf (r : LaneSet) (n : Notice) (q : Fin 64) :
    (s.notify r n).voteOf q = s.voteOf q := rfl
@[simp] theorem State.notify_driveOf (r : LaneSet) (n : Notice) (q : Fin 64) :
    (s.notify r n).driveOf q = s.driveOf q := rfl
@[simp] theorem State.notify_lane (r : LaneSet) (n : Notice) (m : Lane) : (s.notify r n).lane m = s.lane m := rfl
@[simp] theorem State.notify_laneState (r : LaneSet) (n : Notice) (m : Lane) :
    (s.notify r n).laneState m = s.laneState m := rfl
@[simp] theorem State.notify_members (r : LaneSet) (n : Notice) : (s.notify r n).members = s.members := rfl
@[simp] theorem State.notify_memberCount (r : LaneSet) (n : Notice) :
    (s.notify r n).memberCount = s.memberCount := rfl
@[simp] theorem State.notify_joined (r : LaneSet) (n : Notice) : (s.notify r n).joined = s.joined := rfl
@[simp] theorem State.notify_link (r : LaneSet) (n : Notice) (k : Link) : (s.notify r n).link k = s.link k := rfl

/-! ### `State.emptyNotices` -/

@[simp] theorem State.emptyNotices_resetN (l : Lane) : (s.emptyNotices l).resetN = s.resetN := rfl
@[simp] theorem State.emptyNotices_straps (l : Lane) : (s.emptyNotices l).straps = s.straps := rfl
@[simp] theorem State.emptyNotices_time (l : Lane) : (s.emptyNotices l).time = s.time := rfl
@[simp] theorem State.emptyNotices_cu (l : Lane) : (s.emptyNotices l).cu = s.cu := rfl
@[simp] theorem State.emptyNotices_ve (l : Lane) : (s.emptyNotices l).ve = s.ve := rfl
@[simp] theorem State.emptyNotices_du (l : Lane) : (s.emptyNotices l).du = s.du := rfl
@[simp] theorem State.emptyNotices_lm (l : Lane) : (s.emptyNotices l).lm = s.lm := rfl
@[simp] theorem State.emptyNotices_au (l : Lane) : (s.emptyNotices l).au = s.au := rfl
@[simp] theorem State.emptyNotices_sc (l : Lane) : (s.emptyNotices l).sc = s.sc := rfl
@[simp] theorem State.emptyNotices_nu (l : Lane) : (s.emptyNotices l).nu = s.nu.set l (s.nu.get l).emptied := rfl
@[simp] theorem State.emptyNotices_ij (l : Lane) : (s.emptyNotices l).ij = s.ij := rfl
@[simp] theorem State.emptyNotices_lu (l : Lane) : (s.emptyNotices l).lu = s.lu := rfl
@[simp] theorem State.emptyNotices_pending (l : Lane) : (s.emptyNotices l).pending = s.pending := rfl
@[simp] theorem State.emptyNotices_global (l : Lane) : (s.emptyNotices l).global = s.global := rfl
@[simp] theorem State.emptyNotices_cfgOf (l : Lane) (q : Fin 64) : (s.emptyNotices l).cfgOf q = s.cfgOf q := rfl
@[simp] theorem State.emptyNotices_voteOf (l : Lane) (q : Fin 64) : (s.emptyNotices l).voteOf q = s.voteOf q := rfl
@[simp] theorem State.emptyNotices_driveOf (l : Lane) (q : Fin 64) : (s.emptyNotices l).driveOf q = s.driveOf q := rfl
@[simp] theorem State.emptyNotices_lane (l : Lane) (m : Lane) : (s.emptyNotices l).lane m = s.lane m := rfl
@[simp] theorem State.emptyNotices_laneState (l : Lane) (m : Lane) :
    (s.emptyNotices l).laneState m = s.laneState m := rfl
@[simp] theorem State.emptyNotices_members (l : Lane) : (s.emptyNotices l).members = s.members := rfl
@[simp] theorem State.emptyNotices_memberCount (l : Lane) : (s.emptyNotices l).memberCount = s.memberCount := rfl
@[simp] theorem State.emptyNotices_joined (l : Lane) : (s.emptyNotices l).joined = s.joined := rfl
@[simp] theorem State.emptyNotices_link (l : Lane) (k : Link) : (s.emptyNotices l).link k = s.link k := rfl

/-! ### `State.noticeTo` -/

@[simp] theorem State.noticeTo_resetN (l : Lane) (n : Notice) : (s.noticeTo l n).resetN = s.resetN := rfl
@[simp] theorem State.noticeTo_straps (l : Lane) (n : Notice) : (s.noticeTo l n).straps = s.straps := rfl
@[simp] theorem State.noticeTo_time (l : Lane) (n : Notice) : (s.noticeTo l n).time = s.time := rfl
@[simp] theorem State.noticeTo_cu (l : Lane) (n : Notice) : (s.noticeTo l n).cu = s.cu := rfl
@[simp] theorem State.noticeTo_ve (l : Lane) (n : Notice) : (s.noticeTo l n).ve = s.ve := rfl
@[simp] theorem State.noticeTo_du (l : Lane) (n : Notice) : (s.noticeTo l n).du = s.du := rfl
@[simp] theorem State.noticeTo_lm (l : Lane) (n : Notice) : (s.noticeTo l n).lm = s.lm := rfl
@[simp] theorem State.noticeTo_au (l : Lane) (n : Notice) : (s.noticeTo l n).au = s.au := rfl
@[simp] theorem State.noticeTo_sc (l : Lane) (n : Notice) : (s.noticeTo l n).sc = s.sc := rfl
@[simp] theorem State.noticeTo_nu (l : Lane) (n : Notice) :
    (s.noticeTo l n).nu = s.nu.set l ((s.nu.get l).push n) := rfl
@[simp] theorem State.noticeTo_ij (l : Lane) (n : Notice) : (s.noticeTo l n).ij = s.ij := rfl
@[simp] theorem State.noticeTo_lu (l : Lane) (n : Notice) : (s.noticeTo l n).lu = s.lu := rfl
@[simp] theorem State.noticeTo_pending (l : Lane) (n : Notice) : (s.noticeTo l n).pending = s.pending := rfl
@[simp] theorem State.noticeTo_global (l : Lane) (n : Notice) : (s.noticeTo l n).global = s.global := rfl
@[simp] theorem State.noticeTo_cfgOf (l : Lane) (n : Notice) (q : Fin 64) :
    (s.noticeTo l n).cfgOf q = s.cfgOf q := rfl
@[simp] theorem State.noticeTo_voteOf (l : Lane) (n : Notice) (q : Fin 64) :
    (s.noticeTo l n).voteOf q = s.voteOf q := rfl
@[simp] theorem State.noticeTo_driveOf (l : Lane) (n : Notice) (q : Fin 64) :
    (s.noticeTo l n).driveOf q = s.driveOf q := rfl
@[simp] theorem State.noticeTo_lane (l : Lane) (n : Notice) (m : Lane) : (s.noticeTo l n).lane m = s.lane m := rfl
@[simp] theorem State.noticeTo_laneState (l : Lane) (n : Notice) (m : Lane) :
    (s.noticeTo l n).laneState m = s.laneState m := rfl
@[simp] theorem State.noticeTo_members (l : Lane) (n : Notice) : (s.noticeTo l n).members = s.members := rfl
@[simp] theorem State.noticeTo_memberCount (l : Lane) (n : Notice) :
    (s.noticeTo l n).memberCount = s.memberCount := rfl
@[simp] theorem State.noticeTo_joined (l : Lane) (n : Notice) : (s.noticeTo l n).joined = s.joined := rfl
@[simp] theorem State.noticeTo_link (l : Lane) (n : Notice) (k : Link) : (s.noticeTo l n).link k = s.link k := rfl

/-! ### `State.handOff` -/

@[simp] theorem State.handOff_resetN (p : Fin 64) (v : Value) : (s.handOff p v).resetN = s.resetN := rfl
@[simp] theorem State.handOff_straps (p : Fin 64) (v : Value) : (s.handOff p v).straps = s.straps := rfl
@[simp] theorem State.handOff_time (p : Fin 64) (v : Value) : (s.handOff p v).time = s.time := rfl
@[simp] theorem State.handOff_cu (p : Fin 64) (v : Value) : (s.handOff p v).cu = s.cu := rfl
@[simp] theorem State.handOff_ve (p : Fin 64) (v : Value) : (s.handOff p v).ve = s.ve := rfl
@[simp] theorem State.handOff_du (p : Fin 64) (v : Value) :
    (s.handOff p v).du = s.du.handOff s.global.echoRetries p v := rfl
@[simp] theorem State.handOff_lm (p : Fin 64) (v : Value) : (s.handOff p v).lm = s.lm := rfl
@[simp] theorem State.handOff_au (p : Fin 64) (v : Value) : (s.handOff p v).au = s.au := rfl
@[simp] theorem State.handOff_sc (p : Fin 64) (v : Value) : (s.handOff p v).sc = s.sc := rfl
@[simp] theorem State.handOff_nu (p : Fin 64) (v : Value) : (s.handOff p v).nu = s.nu := rfl
@[simp] theorem State.handOff_ij (p : Fin 64) (v : Value) : (s.handOff p v).ij = s.ij := rfl
@[simp] theorem State.handOff_lu (p : Fin 64) (v : Value) : (s.handOff p v).lu = s.lu := rfl
@[simp] theorem State.handOff_pending (p : Fin 64) (v : Value) : (s.handOff p v).pending = s.pending := rfl
@[simp] theorem State.handOff_global (p : Fin 64) (v : Value) : (s.handOff p v).global = s.global := rfl
@[simp] theorem State.handOff_cfgOf (p : Fin 64) (v : Value) (q : Fin 64) : (s.handOff p v).cfgOf q = s.cfgOf q := rfl
@[simp] theorem State.handOff_voteOf (p : Fin 64) (v : Value) (q : Fin 64) :
    (s.handOff p v).voteOf q = s.voteOf q := rfl
@[simp] theorem State.handOff_lane (p : Fin 64) (v : Value) (m : Lane) : (s.handOff p v).lane m = s.lane m := rfl
@[simp] theorem State.handOff_laneState (p : Fin 64) (v : Value) (m : Lane) :
    (s.handOff p v).laneState m = s.laneState m := rfl
@[simp] theorem State.handOff_members (p : Fin 64) (v : Value) : (s.handOff p v).members = s.members := rfl
@[simp] theorem State.handOff_memberCount (p : Fin 64) (v : Value) :
    (s.handOff p v).memberCount = s.memberCount := rfl
@[simp] theorem State.handOff_joined (p : Fin 64) (v : Value) : (s.handOff p v).joined = s.joined := rfl
@[simp] theorem State.handOff_link (p : Fin 64) (v : Value) (k : Link) : (s.handOff p v).link k = s.link k := rfl

/-! ### `State.handSafeValues` -/

@[simp] theorem State.handSafeValues_resetN : (s.handSafeValues).resetN = s.resetN := rfl
@[simp] theorem State.handSafeValues_straps : (s.handSafeValues).straps = s.straps := rfl
@[simp] theorem State.handSafeValues_time : (s.handSafeValues).time = s.time := rfl
@[simp] theorem State.handSafeValues_cu : (s.handSafeValues).cu = s.cu := rfl
@[simp] theorem State.handSafeValues_ve : (s.handSafeValues).ve = s.ve := rfl
@[simp] theorem State.handSafeValues_du : (s.handSafeValues).du = s.du.handSafeValues s.cu.active := rfl
@[simp] theorem State.handSafeValues_lm : (s.handSafeValues).lm = s.lm := rfl
@[simp] theorem State.handSafeValues_au : (s.handSafeValues).au = s.au := rfl
@[simp] theorem State.handSafeValues_sc : (s.handSafeValues).sc = s.sc := rfl
@[simp] theorem State.handSafeValues_nu : (s.handSafeValues).nu = s.nu := rfl
@[simp] theorem State.handSafeValues_ij : (s.handSafeValues).ij = s.ij := rfl
@[simp] theorem State.handSafeValues_lu : (s.handSafeValues).lu = s.lu := rfl
@[simp] theorem State.handSafeValues_pending : (s.handSafeValues).pending = s.pending := rfl
@[simp] theorem State.handSafeValues_global : (s.handSafeValues).global = s.global := rfl
@[simp] theorem State.handSafeValues_cfgOf (q : Fin 64) : (s.handSafeValues).cfgOf q = s.cfgOf q := rfl
@[simp] theorem State.handSafeValues_voteOf (q : Fin 64) : (s.handSafeValues).voteOf q = s.voteOf q := rfl
@[simp] theorem State.handSafeValues_lane (m : Lane) : (s.handSafeValues).lane m = s.lane m := rfl
@[simp] theorem State.handSafeValues_laneState (m : Lane) : (s.handSafeValues).laneState m = s.laneState m := rfl
@[simp] theorem State.handSafeValues_members : (s.handSafeValues).members = s.members := rfl
@[simp] theorem State.handSafeValues_memberCount : (s.handSafeValues).memberCount = s.memberCount := rfl
@[simp] theorem State.handSafeValues_joined : (s.handSafeValues).joined = s.joined := rfl
@[simp] theorem State.handSafeValues_link (k : Link) : (s.handSafeValues).link k = s.link k := rfl

/-! ### `State.reinitPoints` -/

@[simp] theorem State.reinitPoints_resetN : (s.reinitPoints).resetN = s.resetN := rfl
@[simp] theorem State.reinitPoints_straps : (s.reinitPoints).straps = s.straps := rfl
@[simp] theorem State.reinitPoints_time : (s.reinitPoints).time = s.time := rfl
@[simp] theorem State.reinitPoints_cu : (s.reinitPoints).cu = s.cu := rfl
@[simp] theorem State.reinitPoints_ve : (s.reinitPoints).ve = tabulatePoints fun _ => clearedVote := rfl
@[simp] theorem State.reinitPoints_du : (s.reinitPoints).du = s.du.reinit s.cu.active := rfl
@[simp] theorem State.reinitPoints_lm : (s.reinitPoints).lm = s.lm := rfl
@[simp] theorem State.reinitPoints_au : (s.reinitPoints).au = s.au := rfl
@[simp] theorem State.reinitPoints_sc : (s.reinitPoints).sc = s.sc := rfl
@[simp] theorem State.reinitPoints_nu : (s.reinitPoints).nu = s.nu := rfl
@[simp] theorem State.reinitPoints_ij : (s.reinitPoints).ij = s.ij := rfl
@[simp] theorem State.reinitPoints_lu : (s.reinitPoints).lu = s.lu := rfl
@[simp] theorem State.reinitPoints_pending : (s.reinitPoints).pending = s.pending := rfl
@[simp] theorem State.reinitPoints_global : (s.reinitPoints).global = s.global := rfl
@[simp] theorem State.reinitPoints_cfgOf (q : Fin 64) : (s.reinitPoints).cfgOf q = s.cfgOf q := rfl
@[simp] theorem State.reinitPoints_lane (m : Lane) : (s.reinitPoints).lane m = s.lane m := rfl
@[simp] theorem State.reinitPoints_laneState (m : Lane) : (s.reinitPoints).laneState m = s.laneState m := rfl
@[simp] theorem State.reinitPoints_members : (s.reinitPoints).members = s.members := rfl
@[simp] theorem State.reinitPoints_memberCount : (s.reinitPoints).memberCount = s.memberCount := rfl
@[simp] theorem State.reinitPoints_joined : (s.reinitPoints).joined = s.joined := rfl
@[simp] theorem State.reinitPoints_link (k : Link) : (s.reinitPoints).link k = s.link k := rfl

/-! ### `State.void` -/

@[simp] theorem State.void_resetN (l : Lane) : (s.void l).resetN = s.resetN := rfl
@[simp] theorem State.void_straps (l : Lane) : (s.void l).straps = s.straps := rfl
@[simp] theorem State.void_time (l : Lane) : (s.void l).time = s.time := rfl
@[simp] theorem State.void_cu (l : Lane) : (s.void l).cu = s.cu := rfl
@[simp] theorem State.void_du (l : Lane) : (s.void l).du = s.du := rfl
@[simp] theorem State.void_lm (l : Lane) : (s.void l).lm = s.lm := rfl
@[simp] theorem State.void_au (l : Lane) : (s.void l).au = s.au := rfl
@[simp] theorem State.void_sc (l : Lane) : (s.void l).sc = s.sc := rfl
@[simp] theorem State.void_nu (l : Lane) : (s.void l).nu = s.nu := rfl
@[simp] theorem State.void_ij (l : Lane) : (s.void l).ij = s.ij := rfl
@[simp] theorem State.void_lu (l : Lane) : (s.void l).lu = s.lu := rfl
@[simp] theorem State.void_pending (l : Lane) : (s.void l).pending = s.pending := rfl
@[simp] theorem State.void_global (l : Lane) : (s.void l).global = s.global := rfl
@[simp] theorem State.void_cfgOf (l : Lane) (q : Fin 64) : (s.void l).cfgOf q = s.cfgOf q := rfl
@[simp] theorem State.void_driveOf (l : Lane) (q : Fin 64) : (s.void l).driveOf q = s.driveOf q := rfl
@[simp] theorem State.void_lane (l : Lane) (m : Lane) : (s.void l).lane m = s.lane m := rfl
@[simp] theorem State.void_laneState (l : Lane) (m : Lane) : (s.void l).laneState m = s.laneState m := rfl
@[simp] theorem State.void_members (l : Lane) : (s.void l).members = s.members := rfl
@[simp] theorem State.void_memberCount (l : Lane) : (s.void l).memberCount = s.memberCount := rfl
@[simp] theorem State.void_joined (l : Lane) : (s.void l).joined = s.joined := rfl
@[simp] theorem State.void_link (l : Lane) (k : Link) : (s.void l).link k = s.link k := rfl

/-! ### `State.setSafe` -/

@[simp] theorem State.setSafe_resetN (b : Bool) : (s.setSafe b).resetN = s.resetN := rfl
@[simp] theorem State.setSafe_straps (b : Bool) : (s.setSafe b).straps = s.straps := rfl
@[simp] theorem State.setSafe_time (b : Bool) : (s.setSafe b).time = s.time := rfl
@[simp] theorem State.setSafe_cu (b : Bool) : (s.setSafe b).cu = s.cu := rfl
@[simp] theorem State.setSafe_ve (b : Bool) : (s.setSafe b).ve = s.ve := rfl
@[simp] theorem State.setSafe_du (b : Bool) : (s.setSafe b).du = s.du := rfl
@[simp] theorem State.setSafe_lm (b : Bool) : (s.setSafe b).lm = s.lm := rfl
@[simp] theorem State.setSafe_au (b : Bool) : (s.setSafe b).au = s.au := rfl
@[simp] theorem State.setSafe_sc (b : Bool) : (s.setSafe b).sc = { s.sc with flag := b, safeN := safeLevel b } := rfl
@[simp] theorem State.setSafe_nu (b : Bool) : (s.setSafe b).nu = s.nu := rfl
@[simp] theorem State.setSafe_ij (b : Bool) : (s.setSafe b).ij = s.ij := rfl
@[simp] theorem State.setSafe_lu (b : Bool) : (s.setSafe b).lu = s.lu := rfl
@[simp] theorem State.setSafe_pending (b : Bool) : (s.setSafe b).pending = s.pending := rfl
@[simp] theorem State.setSafe_global (b : Bool) : (s.setSafe b).global = s.global := rfl
@[simp] theorem State.setSafe_cfgOf (b : Bool) (q : Fin 64) : (s.setSafe b).cfgOf q = s.cfgOf q := rfl
@[simp] theorem State.setSafe_voteOf (b : Bool) (q : Fin 64) : (s.setSafe b).voteOf q = s.voteOf q := rfl
@[simp] theorem State.setSafe_driveOf (b : Bool) (q : Fin 64) : (s.setSafe b).driveOf q = s.driveOf q := rfl
@[simp] theorem State.setSafe_lane (b : Bool) (m : Lane) : (s.setSafe b).lane m = s.lane m := rfl
@[simp] theorem State.setSafe_laneState (b : Bool) (m : Lane) : (s.setSafe b).laneState m = s.laneState m := rfl
@[simp] theorem State.setSafe_members (b : Bool) : (s.setSafe b).members = s.members := rfl
@[simp] theorem State.setSafe_memberCount (b : Bool) : (s.setSafe b).memberCount = s.memberCount := rfl
@[simp] theorem State.setSafe_joined (b : Bool) : (s.setSafe b).joined = s.joined := rfl
@[simp] theorem State.setSafe_link (b : Bool) (k : Link) : (s.setSafe b).link k = s.link k := rfl

/-! ### `State.removeVoter` -/

@[simp] theorem State.removeVoter_resetN (l : Lane) : (s.removeVoter l).resetN = s.resetN := rfl
@[simp] theorem State.removeVoter_straps (l : Lane) : (s.removeVoter l).straps = s.straps := rfl
@[simp] theorem State.removeVoter_time (l : Lane) : (s.removeVoter l).time = s.time := rfl
@[simp] theorem State.removeVoter_cu (l : Lane) : (s.removeVoter l).cu = s.cu := rfl
@[simp] theorem State.removeVoter_ve (l : Lane) : (s.removeVoter l).ve = s.ve := rfl
@[simp] theorem State.removeVoter_du (l : Lane) : (s.removeVoter l).du = s.du := rfl
@[simp] theorem State.removeVoter_lm (l : Lane) : (s.removeVoter l).lm = s.lm := rfl
@[simp] theorem State.removeVoter_au (l : Lane) : (s.removeVoter l).au = s.au := rfl
@[simp] theorem State.removeVoter_sc (l : Lane) :
    (s.removeVoter l).sc = { s.sc with collection := s.sc.collection.bind (Collection.without l) } := rfl
@[simp] theorem State.removeVoter_nu (l : Lane) : (s.removeVoter l).nu = s.nu := rfl
@[simp] theorem State.removeVoter_ij (l : Lane) : (s.removeVoter l).ij = s.ij := rfl
@[simp] theorem State.removeVoter_lu (l : Lane) : (s.removeVoter l).lu = s.lu := rfl
@[simp] theorem State.removeVoter_pending (l : Lane) : (s.removeVoter l).pending = s.pending := rfl
@[simp] theorem State.removeVoter_global (l : Lane) : (s.removeVoter l).global = s.global := rfl
@[simp] theorem State.removeVoter_cfgOf (l : Lane) (q : Fin 64) : (s.removeVoter l).cfgOf q = s.cfgOf q := rfl
@[simp] theorem State.removeVoter_voteOf (l : Lane) (q : Fin 64) : (s.removeVoter l).voteOf q = s.voteOf q := rfl
@[simp] theorem State.removeVoter_driveOf (l : Lane) (q : Fin 64) : (s.removeVoter l).driveOf q = s.driveOf q := rfl
@[simp] theorem State.removeVoter_lane (l : Lane) (m : Lane) : (s.removeVoter l).lane m = s.lane m := rfl
@[simp] theorem State.removeVoter_laneState (l : Lane) (m : Lane) :
    (s.removeVoter l).laneState m = s.laneState m := rfl
@[simp] theorem State.removeVoter_members (l : Lane) : (s.removeVoter l).members = s.members := rfl
@[simp] theorem State.removeVoter_memberCount (l : Lane) : (s.removeVoter l).memberCount = s.memberCount := rfl
@[simp] theorem State.removeVoter_joined (l : Lane) : (s.removeVoter l).joined = s.joined := rfl
@[simp] theorem State.removeVoter_link (l : Lane) (k : Link) : (s.removeVoter l).link k = s.link k := rfl

/-! ### `State.putStaging` -/

@[simp] theorem State.putStaging_resetN (i : Image) : (s.putStaging i).resetN = s.resetN := rfl
@[simp] theorem State.putStaging_straps (i : Image) : (s.putStaging i).straps = s.straps := rfl
@[simp] theorem State.putStaging_time (i : Image) : (s.putStaging i).time = s.time := rfl
@[simp] theorem State.putStaging_cu (i : Image) : (s.putStaging i).cu = { s.cu with staging := i } := rfl
@[simp] theorem State.putStaging_ve (i : Image) : (s.putStaging i).ve = s.ve := rfl
@[simp] theorem State.putStaging_du (i : Image) : (s.putStaging i).du = s.du := rfl
@[simp] theorem State.putStaging_lm (i : Image) : (s.putStaging i).lm = s.lm := rfl
@[simp] theorem State.putStaging_au (i : Image) : (s.putStaging i).au = s.au := rfl
@[simp] theorem State.putStaging_sc (i : Image) : (s.putStaging i).sc = s.sc := rfl
@[simp] theorem State.putStaging_nu (i : Image) : (s.putStaging i).nu = s.nu := rfl
@[simp] theorem State.putStaging_ij (i : Image) : (s.putStaging i).ij = s.ij := rfl
@[simp] theorem State.putStaging_lu (i : Image) : (s.putStaging i).lu = s.lu := rfl
@[simp] theorem State.putStaging_pending (i : Image) : (s.putStaging i).pending = s.pending := rfl
@[simp] theorem State.putStaging_voteOf (i : Image) (q : Fin 64) : (s.putStaging i).voteOf q = s.voteOf q := rfl
@[simp] theorem State.putStaging_driveOf (i : Image) (q : Fin 64) : (s.putStaging i).driveOf q = s.driveOf q := rfl
@[simp] theorem State.putStaging_lane (i : Image) (m : Lane) : (s.putStaging i).lane m = s.lane m := rfl
@[simp] theorem State.putStaging_laneState (i : Image) (m : Lane) :
    (s.putStaging i).laneState m = s.laneState m := rfl
@[simp] theorem State.putStaging_members (i : Image) : (s.putStaging i).members = s.members := rfl
@[simp] theorem State.putStaging_memberCount (i : Image) : (s.putStaging i).memberCount = s.memberCount := rfl
@[simp] theorem State.putStaging_joined (i : Image) : (s.putStaging i).joined = s.joined := rfl
@[simp] theorem State.putStaging_link (i : Image) (k : Link) : (s.putStaging i).link k = s.link k := rfl

end Sys2Proof.Machine
end

