-- ==== Sys2Proof/Laws/Tables.lean ====
section
/-! SUPPORT. Reading after writing in the tables by lane, link and point, and in the state through them. -/

namespace Sys2Proof

@[simp] theorem PerLane.get_set_self {α : Type} (v : PerLane α) (l : Lane) (x : α) : (v.set l x).get l = x := by
  cases l <;> rfl

theorem PerLane.get_set_of_ne {α : Type} {l m : Lane} (v : PerLane α) (x : α) (h : m ≠ l) :
    (v.set l x).get m = v.get m := by
  cases l <;> cases m <;> first | rfl | exact absurd rfl h

theorem PerLane.get_set {α : Type} (v : PerLane α) (l m : Lane) (x : α) :
    (v.set l x).get m = if m = l then x else v.get m := by
  cases l <;> cases m <;> rfl

@[simp] theorem PerLane.get_tabulate {α : Type} (f : Lane → α) (l : Lane) : (PerLane.tabulate f).get l = f l := by
  cases l <;> rfl

@[simp] theorem PerLane.get_map {α β : Type} (f : α → β) (v : PerLane α) (l : Lane) :
    (v.map f).get l = f (v.get l) := by
  cases l <;> rfl

theorem PerLane.eq_of_get {α : Type} {v w : PerLane α} (h : ∀ l, v.get l = w.get l) : v = w := by
  cases v; cases w
  have ha := h .a
  have hb := h .b
  have hc := h .c
  simp only [PerLane.get] at ha hb hc
  subst ha hb hc
  rfl

@[simp] theorem PerLane.set_get {α : Type} (v : PerLane α) (l : Lane) : v.set l (v.get l) = v := by
  cases l <;> rfl

@[simp] theorem PerLane.set_set {α : Type} (v : PerLane α) (l : Lane) (x y : α) : (v.set l x).set l y = v.set l y := by
  cases l <;> rfl

@[simp] theorem LaneSet.get_empty (l : Lane) : LaneSet.empty.get l = false := by cases l <;> rfl

@[simp] theorem LaneSet.get_inter (x y : LaneSet) (l : Lane) : (x.inter y).get l = (x.get l && y.get l) := by
  simp [LaneSet.inter]

theorem LaneSet.get_remove (x : LaneSet) (l m : Lane) : (x.remove l).get m = if m = l then false else x.get m :=
  PerLane.get_set x l m false

theorem LaneSet.get_insert (x : LaneSet) (l m : Lane) : (x.insert l).get m = if m = l then true else x.get m :=
  PerLane.get_set x l m true

theorem LaneSet.subset_iff (x y : LaneSet) : x.subset y = true ↔ ∀ l, x.get l = true → y.get l = true := by
  have h : ∀ a b : Bool, (!a || b) = true ↔ (a = true → b = true) := by decide
  simp only [LaneSet.subset, Lane.all, List.all_cons, List.all_nil, Bool.and_true, Bool.and_eq_true, h]
  exact ⟨fun hx l => by cases l; exacts [hx.1, hx.2.1, hx.2.2], fun hx => ⟨hx .a, hx .b, hx .c⟩⟩

theorem LaneSet.isEmpty_iff (x : LaneSet) : x.isEmpty = true ↔ ∀ l, x.get l = false := by
  rcases x with ⟨a, b, c⟩
  constructor
  · intro h l
    cases a <;> cases b <;> cases c <;> first | (cases l <;> rfl) | cases h
  · intro h
    have ha := h .a
    have hb := h .b
    have hc := h .c
    simp_all [LaneSet.isEmpty, PerLane.get]

theorem LaneSet.count_eq_zero_iff (x : LaneSet) : x.count = 0 ↔ ∀ l, x.get l = false := by
  rcases x with ⟨a, b, c⟩
  constructor
  · intro h l
    cases a <;> cases b <;> cases c <;> simp_all [LaneSet.count]
    cases l <;> rfl
  · intro h
    have ha := h .a
    have hb := h .b
    have hc := h .c
    simp_all [LaneSet.count, PerLane.get]

theorem Lane.link_lane? (l : Lane) : l.link.lane? = some l := by cases l <;> rfl

theorem Lane.link_injective {l m : Lane} (h : l.link = m.link) : l = m := by
  cases l <;> cases m <;> first | rfl | cases h

theorem Link.lane?_eq_some {k : Link} {l : Lane} : k.lane? = some l ↔ k = l.link := by
  cases k <;> cases l <;> decide

namespace Machine

@[simp] theorem PerLink.get_set_self {α : Type} (v : PerLink α) (l : Link) (x : α) : (v.set l x).get l = x := by
  cases l <;> rfl

theorem PerLink.get_set_of_ne {α : Type} {l m : Link} (v : PerLink α) (x : α) (h : m ≠ l) :
    (v.set l x).get m = v.get m := by
  cases l <;> cases m <;> first | rfl | exact absurd rfl h

theorem PerLink.get_set {α : Type} (v : PerLink α) (l m : Link) (x : α) :
    (v.set l x).get m = if m = l then x else v.get m := by
  cases l <;> cases m <;> rfl

@[simp] theorem PerLink.get_map {α β : Type} (f : α → β) (v : PerLink α) (l : Link) :
    (v.map f).get l = f (v.get l) := by
  cases l <;> rfl

@[simp] theorem PerLink.set_get {α : Type} (v : PerLink α) (l : Link) : v.set l (v.get l) = v := by
  cases l <;> rfl

@[simp] theorem PerLink.set_set {α : Type} (v : PerLink α) (l : Link) (x y : α) : (v.set l x).set l y = v.set l y := by
  cases l <;> rfl

@[simp] theorem PerPoint.at_put_self {α : Type} (v : PerPoint α) (p : Fin 64) (x : α) : (v.put p x).at p = x := by
  simp [PerPoint.at, PerPoint.put]

theorem PerPoint.at_put {α : Type} (v : PerPoint α) (p q : Fin 64) (x : α) :
    (v.put p x).at q = if q = p then x else v.at q := by
  simp only [PerPoint.at, PerPoint.put, Vector.getElem_set, eq_comm, Fin.ext_iff]

theorem PerPoint.at_put_of_ne {α : Type} {p q : Fin 64} (v : PerPoint α) (x : α) (h : q ≠ p) :
    (v.put p x).at q = v.at q := by
  simp [PerPoint.at_put, h]

@[simp] theorem PerPoint.at_tabulate {α : Type} (f : Fin 64 → α) (p : Fin 64) : (tabulatePoints f).at p = f p := by
  simp only [PerPoint.at, tabulatePoints, allPoints, Vector.getElem_mk, List.getElem_toArray, List.getElem_map,
    List.getElem_finRange]
  rfl

@[simp] theorem PerPoint.at_replicate {α : Type} (x : α) (p : Fin 64) : PerPoint.at (Vector.replicate 64 x) p = x := by
  simp [PerPoint.at]

theorem PerPoint.eq_of_at {α : Type} {v w : PerPoint α} (h : ∀ p, v.at p = w.at p) : v = w := by
  ext i hi
  exact h ⟨i, hi⟩

@[simp] theorem PerPoint.put_at {α : Type} (v : PerPoint α) (p : Fin 64) : v.put p (v.at p) = v := by
  apply PerPoint.eq_of_at
  intro q
  rw [PerPoint.at_put]
  split
  · simp_all
  · rfl

@[simp] theorem PerPoint.put_put {α : Type} (v : PerPoint α) (p : Fin 64) (x y : α) : (v.put p x).put p y = v.put p y := by
  apply PerPoint.eq_of_at
  intro q
  simp only [PerPoint.at_put]
  split <;> rfl

theorem mem_allPoints (p : Fin 64) : p ∈ allPoints := List.mem_finRange p

theorem pointOf_of_val {b : Byte} {p : Fin 64} (h : b.toNat = p.val) : pointOf b = some p := by
  have hb : b.toNat < 64 := h ▸ p.isLt
  simp only [pointOf, hb, dite_true, Option.some.injEq]
  exact Fin.ext h

theorem pointOf_eq_none {b : Byte} (h : 64 ≤ b.toNat) : pointOf b = none := by
  simp [pointOf, Nat.not_lt.mpr h]

theorem pointOf_ofNat (p : Fin 64) : pointOf (BitVec.ofNat 8 p.val) = some p := by
  apply pointOf_of_val
  have := p.isLt
  simp only [BitVec.toNat_ofNat]
  omega

/-! ### The state through its tables -/

variable (s : State)

@[simp] theorem State.voteOf_putVote_self (p : Fin 64) (v : VotePart) : (s.putVote p v).voteOf p = v := by
  simp [State.voteOf]

theorem State.voteOf_putVote (p q : Fin 64) (v : VotePart) :
    (s.putVote p v).voteOf q = if q = p then v else s.voteOf q := by
  simp [State.voteOf, PerPoint.at_put]

@[simp] theorem State.lane_putLane_self (l : Lane) (e : LaneEntry) : (s.putLane l e).lane l = e := by
  simp [State.lane]

theorem State.lane_putLane (l m : Lane) (e : LaneEntry) :
    (s.putLane l e).lane m = if m = l then e else s.lane m := by
  simp [State.lane, PerLane.get_set]

@[simp] theorem State.link_putLink_self (l : Link) (u : LinkUnit) : (s.putLink l u).link l = u := by
  simp [State.link]

theorem State.link_putLink (l k : Link) (u : LinkUnit) :
    (s.putLink l u).link k = if k = l then u else s.link k := by
  simp [State.link, PerLink.get_set]

@[simp] theorem State.putLink_putLink (l : Link) (u v : LinkUnit) : (s.putLink l u).putLink l v = s.putLink l v := by
  simp [State.putLink]

@[simp] theorem State.putLane_putLane (l : Lane) (e f : LaneEntry) : (s.putLane l e).putLane l f = s.putLane l f := by
  simp [State.putLane]

@[simp] theorem State.get_members (l : Lane) : s.members.get l = (s.laneState l == .member) := by simp [State.members]

@[simp] theorem State.get_joined (l : Lane) : s.joined.get l = (s.laneState l).joined := by simp [State.joined]

theorem State.memberCount_eq_zero_iff : s.memberCount = 0 ↔ ∀ l, s.laneState l ≠ .member := by
  simp [State.memberCount, LaneSet.count_eq_zero_iff]

@[simp] theorem State.voteOf_void (l : Lane) (p : Fin 64) :
    (s.void l).voteOf p = { s.voteOf p with slots := voidSlots l (s.voteOf p).slots } := by
  simp [State.voteOf, State.void]

@[simp] theorem State.voteOf_reinitPoints (p : Fin 64) : s.reinitPoints.voteOf p = clearedVote := by
  simp [State.voteOf]

@[simp] theorem State.driveOf_reinitPoints (p : Fin 64) :
    s.reinitPoints.driveOf p = reinitPart s.global.echoRetries (s.cfgOf p) (s.driveOf p) := by
  simp [State.driveOf, DriveUnit.reinit, State.global, State.cfgOf, DriveUnit.part]

end Machine

end Sys2Proof
end

