-- ==== Sys2Proof/Laws/Services.lean ====
section
/-! SUPPORT. What the services shared by every block do, said once: queueing a notice, taking a record, handing a value
to the drive unit, and re-evaluating the safe condition. -/

namespace Sys2Proof.Machine

variable (s : State)

/-! ### Notices -/

theorem NoticeBox.push_of_room {b : NoticeBox} (n : Notice) (h : b.queue.length < 16) :
    b.push n = { b with queue := b.queue ++ [n] } := by
  simp [NoticeBox.push, h]

theorem NoticeBox.push_of_full {b : NoticeBox} (n : Notice) (h : 16 ≤ b.queue.length) :
    b.push n = { b with lost := satInc 255 b.lost } := by
  simp [NoticeBox.push, Nat.not_lt.mpr h]

theorem NoticeBox.length_push (n : Notice) {b : NoticeBox} (h : b.queue.length ≤ 16) :
    (b.push n).queue.length ≤ 16 := by
  unfold NoticeBox.push
  split
  · rename_i hr
    simp only [Config.noticeCapacity] at hr
    simp only [List.length_append, List.length_singleton]
    omega
  · exact h

@[simp] theorem NoticeBox.push_seq (n : Notice) (b : NoticeBox) : (b.push n).seq = b.seq := by
  unfold NoticeBox.push
  split <;> rfl

theorem satInc_le (cap n : Nat) : satInc cap n ≤ cap := by
  unfold satInc
  split <;> omega

theorem satInc_eq_min (cap n : Nat) : satInc cap n = min cap (n + 1) := by
  unfold satInc
  split <;> omega

theorem NoticeBox.lost_push (n : Notice) {b : NoticeBox} (h : b.lost ≤ 255) : (b.push n).lost ≤ 255 := by
  unfold NoticeBox.push
  split
  · exact h
  · exact satInc_le _ _

/-- The spec of `State.notify`: a recipient that is PROBATION or MEMBER has the notice pushed, any other lane is left. -/
theorem State.get_notify (r : LaneSet) (n : Notice) (l : Lane) :
    (s.notify r n).nu.get l =
      if r.get l && (s.laneState l).joined then (s.nu.get l).push n else s.nu.get l := by
  simp [State.notify]

/-! ### Records -/

@[simp] theorem Journal.store_state (now : Time) (sub : Option Lane) (b : RecordBody) (j : Journal) :
    (j.store now sub b).state = j.state := rfl

@[simp] theorem Journal.store_counter (now : Time) (sub : Option Lane) (b : RecordBody) (j : Journal) :
    (j.store now sub b).counter = j.counter + 1 := rfl

theorem Journal.length_store (now : Time) (sub : Option Lane) (b : RecordBody) {j : Journal} (h : j.ring.length ≤ 256) :
    (j.store now sub b).ring.length ≤ 256 := by
  simp only [Journal.store, Config.ringCapacity, List.length_append, List.length_singleton]
  split
  · omega
  · simp only [List.length_tail]
    omega

/-- A FROZEN journal stores nothing and counts the record as dropped. -/
theorem Journal.submit_of_frozen {j : Journal} (m : TriggerMask) (k : Nat) (now : Time) (sub : Option Lane)
    (b : RecordBody) (h : j.state = .frozen) :
    j.submit m k now sub b = { j with dropped := satInc 65535 j.dropped } := by
  simp [Journal.submit, h]

/-- A journal that is not FROZEN stores the record. -/
theorem Journal.submit_stores {j : Journal} (m : TriggerMask) (k : Nat) (now : Time) (sub : Option Lane)
    (b : RecordBody) (h : j.state ≠ .frozen) :
    (j.submit m k now sub b).ring = (j.store now sub b).ring ∧ (j.submit m k now sub b).counter = j.counter + 1 ∧
      (j.submit m k now sub b).dropped = j.dropped := by
  unfold Journal.submit
  split
  · exact absurd ‹_› h
  · split <;> exact ⟨rfl, rfl, rfl⟩
  · exact ⟨rfl, rfl, rfl⟩

/-- The spec of `State.submit`: the journal takes the record, and besides only the notice queues may change, each by at
most one JOURNAL_FROZEN notice, for a lane PROBATION or MEMBER. -/
theorem State.submit_spec (sub : Option Lane) (b : RecordBody) :
    ∃ nu, s.submit sub b =
        { s with ij := s.ij.submit s.global.triggers s.global.postCount s.time sub b, nu := nu } ∧
      ∀ l, nu.get l = s.nu.get l ∨ (s.laneState l).joined = true ∧ ∃ n, nu.get l = (s.nu.get l).push n := by
  unfold State.submit
  dsimp only
  split
  · split
    · exact ⟨s.nu, rfl, fun _ => .inl rfl⟩
    · rename_i n _
      refine ⟨_, rfl, fun l => ?_⟩
      rw [PerLane.get_tabulate]
      split
      · rename_i h
        simp only [Bool.and_eq_true] at h
        exact .inr ⟨h.2, n, rfl⟩
      · exact .inl rfl
  · exact ⟨s.nu, rfl, fun _ => .inl rfl⟩

@[simp] theorem State.submit_ij (sub : Option Lane) (b : RecordBody) :
    (s.submit sub b).ij = s.ij.submit s.global.triggers s.global.postCount s.time sub b := by
  obtain ⟨nu, h, -⟩ := s.submit_spec sub b
  rw [h]

@[simp] theorem State.submit_resetN (sub : Option Lane) (b : RecordBody) : (s.submit sub b).resetN = s.resetN := by
  obtain ⟨nu, h, -⟩ := s.submit_spec sub b
  rw [h]

@[simp] theorem State.submit_straps (sub : Option Lane) (b : RecordBody) : (s.submit sub b).straps = s.straps := by
  obtain ⟨nu, h, -⟩ := s.submit_spec sub b
  rw [h]

@[simp] theorem State.submit_time (sub : Option Lane) (b : RecordBody) : (s.submit sub b).time = s.time := by
  obtain ⟨nu, h, -⟩ := s.submit_spec sub b
  rw [h]

@[simp] theorem State.submit_cu (sub : Option Lane) (b : RecordBody) : (s.submit sub b).cu = s.cu := by
  obtain ⟨nu, h, -⟩ := s.submit_spec sub b
  rw [h]

@[simp] theorem State.submit_ve (sub : Option Lane) (b : RecordBody) : (s.submit sub b).ve = s.ve := by
  obtain ⟨nu, h, -⟩ := s.submit_spec sub b
  rw [h]

@[simp] theorem State.submit_du (sub : Option Lane) (b : RecordBody) : (s.submit sub b).du = s.du := by
  obtain ⟨nu, h, -⟩ := s.submit_spec sub b
  rw [h]

@[simp] theorem State.submit_lm (sub : Option Lane) (b : RecordBody) : (s.submit sub b).lm = s.lm := by
  obtain ⟨nu, h, -⟩ := s.submit_spec sub b
  rw [h]

@[simp] theorem State.submit_au (sub : Option Lane) (b : RecordBody) : (s.submit sub b).au = s.au := by
  obtain ⟨nu, h, -⟩ := s.submit_spec sub b
  rw [h]

@[simp] theorem State.submit_sc (sub : Option Lane) (b : RecordBody) : (s.submit sub b).sc = s.sc := by
  obtain ⟨nu, h, -⟩ := s.submit_spec sub b
  rw [h]

@[simp] theorem State.submit_lu (sub : Option Lane) (b : RecordBody) : (s.submit sub b).lu = s.lu := by
  obtain ⟨nu, h, -⟩ := s.submit_spec sub b
  rw [h]

@[simp] theorem State.submit_pending (sub : Option Lane) (b : RecordBody) : (s.submit sub b).pending = s.pending := by
  obtain ⟨nu, h, -⟩ := s.submit_spec sub b
  rw [h]

@[simp] theorem State.submit_global (sub : Option Lane) (b : RecordBody) :
    (s.submit sub b).global = s.global := by
  obtain ⟨nu, h, -⟩ := s.submit_spec sub b
  rw [h]
  rfl

@[simp] theorem State.submit_cfgOf (sub : Option Lane) (b : RecordBody) (q : Fin 64) :
    (s.submit sub b).cfgOf q = s.cfgOf q := by
  obtain ⟨nu, h, -⟩ := s.submit_spec sub b
  rw [h]
  rfl

@[simp] theorem State.submit_voteOf (sub : Option Lane) (b : RecordBody) (q : Fin 64) :
    (s.submit sub b).voteOf q = s.voteOf q := by
  obtain ⟨nu, h, -⟩ := s.submit_spec sub b
  rw [h]
  rfl

@[simp] theorem State.submit_driveOf (sub : Option Lane) (b : RecordBody) (q : Fin 64) :
    (s.submit sub b).driveOf q = s.driveOf q := by
  obtain ⟨nu, h, -⟩ := s.submit_spec sub b
  rw [h]
  rfl

@[simp] theorem State.submit_lane (sub : Option Lane) (b : RecordBody) (m : Lane) :
    (s.submit sub b).lane m = s.lane m := by
  obtain ⟨nu, h, -⟩ := s.submit_spec sub b
  rw [h]
  rfl

@[simp] theorem State.submit_laneState (sub : Option Lane) (b : RecordBody) (m : Lane) :
    (s.submit sub b).laneState m = s.laneState m := by
  obtain ⟨nu, h, -⟩ := s.submit_spec sub b
  rw [h]
  rfl

@[simp] theorem State.submit_members (sub : Option Lane) (b : RecordBody) :
    (s.submit sub b).members = s.members := by
  obtain ⟨nu, h, -⟩ := s.submit_spec sub b
  rw [h]
  rfl

@[simp] theorem State.submit_memberCount (sub : Option Lane) (b : RecordBody) :
    (s.submit sub b).memberCount = s.memberCount := by
  obtain ⟨nu, h, -⟩ := s.submit_spec sub b
  rw [h]
  rfl

@[simp] theorem State.submit_joined (sub : Option Lane) (b : RecordBody) :
    (s.submit sub b).joined = s.joined := by
  obtain ⟨nu, h, -⟩ := s.submit_spec sub b
  rw [h]
  rfl

@[simp] theorem State.submit_link (sub : Option Lane) (b : RecordBody) (k : Link) :
    (s.submit sub b).link k = s.link k := by
  obtain ⟨nu, h, -⟩ := s.submit_spec sub b
  rw [h]
  rfl

/-! ### The drive unit -/

@[simp] theorem DriveUnit.part_putPart_self (d : DriveUnit) (p : Fin 64) (x : DrivePart) :
    (d.putPart p x).part p = x := by
  simp [DriveUnit.part, DriveUnit.putPart]

theorem DriveUnit.part_putPart_of_ne (d : DriveUnit) {p q : Fin 64} (x : DrivePart) (h : q ≠ p) :
    (d.putPart p x).part q = d.part q := by
  simp [DriveUnit.part, DriveUnit.putPart, PerPoint.at_put_of_ne _ _ h]

/-- The spec of `DriveUnit.handOff`: the echo table, the tag counter and every other point are left; confirmed and last
tag are kept; the target is the value; the queue keeps its order and gains at most the point. -/
theorem DriveUnit.handOff_spec (retries : Nat) (p : Fin 64) (v : Value) (d : DriveUnit) :
    (d.handOff retries p v).echoes = d.echoes ∧ (d.handOff retries p v).tagCounter = d.tagCounter ∧
    (∀ q, q ≠ p → (d.handOff retries p v).part q = d.part q) ∧
    ((d.handOff retries p v).part p).target = v ∧
    ((d.handOff retries p v).part p).confirmed = (d.part p).confirmed ∧
    ((d.handOff retries p v).part p).lastTag = (d.part p).lastTag ∧
    ((d.handOff retries p v).queue = d.queue ∧ ((d.handOff retries p v).part p).status = (d.part p).status ∨
      (d.handOff retries p v).queue = d.queue ++ [p] ∧ (d.part p).status = .idle ∧
        ((d.handOff retries p v).part p).status = .queued) := by
  unfold DriveUnit.handOff
  dsimp only
  split
  · refine ⟨rfl, rfl, fun q h => DriveUnit.part_putPart_of_ne _ _ h, ?_⟩
    rw [DriveUnit.part_putPart_self]
    exact ⟨rfl, rfl, rfl, .inl ⟨rfl, rfl⟩⟩
  · split
    · rename_i h
      exact ⟨rfl, rfl, fun _ _ => rfl, h.1.symm, rfl, rfl, .inl ⟨rfl, rfl⟩⟩
    · rename_i hs _
      refine ⟨rfl, rfl, fun q h => DriveUnit.part_putPart_of_ne _ _ h, ?_⟩
      have e : ∀ x, (d.enqueue p x).part p = { x with status := .queued } := fun x =>
        DriveUnit.part_putPart_self d p _
      rw [e]
      exact ⟨rfl, rfl, rfl, .inr ⟨rfl, hs, rfl⟩⟩
  · refine ⟨rfl, rfl, fun q h => DriveUnit.part_putPart_of_ne _ _ h, ?_⟩
    rw [DriveUnit.part_putPart_self]
    exact ⟨rfl, rfl, rfl, .inl ⟨rfl, rfl⟩⟩
  · refine ⟨rfl, rfl, fun q h => DriveUnit.part_putPart_of_ne _ _ h, ?_⟩
    rw [DriveUnit.part_putPart_self]
    exact ⟨rfl, rfl, rfl, .inl ⟨rfl, rfl⟩⟩

/-- A FAULTED point takes a value's target alone. -/
theorem DriveUnit.handOff_of_faulted (retries : Nat) (p : Fin 64) (v : Value) (d : DriveUnit)
    (h : (d.part p).status = .faulted) : d.handOff retries p v = d.putPart p { d.part p with target := v } := by
  simp [DriveUnit.handOff, h]

end Sys2Proof.Machine
end

