-- ==== Sys2Proof/Laws/Lanes.lean ====
section
/-! SUPPORT. What the operations of Safe Control, the Authority Unit and the Lane Monitor can do, said once for each:
what they leave of the state, and what a change of a lane makes of the lane table. -/

namespace Sys2Proof.Machine

/-- The parts of the state that only the pins, the clock, the link units and the Configuration Unit change. -/
structure State.SameBase (s t : State) : Prop where
  resetN : t.resetN = s.resetN
  straps : t.straps = s.straps
  time : t.time = s.time
  cu : t.cu = s.cu
  lu : t.lu = s.lu
  pending : t.pending = s.pending

theorem State.SameBase.refl (s : State) : s.SameBase s := ⟨rfl, rfl, rfl, rfl, rfl, rfl⟩

theorem State.SameBase.trans {s t u : State} (h : s.SameBase t) (k : t.SameBase u) : s.SameBase u :=
  ⟨k.resetN.trans h.resetN, k.straps.trans h.straps, k.time.trans h.time, k.cu.trans h.cu, k.lu.trans h.lu,
    k.pending.trans h.pending⟩

theorem State.SameBase.global {s t : State} (h : s.SameBase t) : t.global = s.global := by
  rw [State.global, h.cu, ← State.global]

theorem State.SameBase.cfgOf {s t : State} (h : s.SameBase t) (p : Fin 64) : t.cfgOf p = s.cfgOf p := by
  rw [State.cfgOf, h.cu, ← State.cfgOf]

theorem State.SameBase.link {s t : State} (h : s.SameBase t) (l : Link) : t.link l = s.link l := by
  rw [State.link, h.lu, ← State.link]

variable (s : State)

theorem State.submit_base (sub : Option Lane) (b : RecordBody) : s.SameBase (s.submit sub b) := by
  constructor <;> simp

theorem State.notify_base (r : LaneSet) (n : Notice) : s.SameBase (s.notify r n) := ⟨rfl, rfl, rfl, rfl, rfl, rfl⟩

/-! ### Safe Control -/

theorem State.reportSafe_base (d : SafeDirection) (sub : Option Lane) : s.SameBase (s.reportSafe d sub) :=
  (s.notify_base _ _).trans (State.submit_base _ _ _)

@[simp] theorem State.reportSafe_sc (d : SafeDirection) (sub : Option Lane) : (s.reportSafe d sub).sc = s.sc := by
  simp [State.reportSafe]

@[simp] theorem State.reportSafe_lm (d : SafeDirection) (sub : Option Lane) : (s.reportSafe d sub).lm = s.lm := by
  simp [State.reportSafe]

@[simp] theorem State.reportSafe_ve (d : SafeDirection) (sub : Option Lane) : (s.reportSafe d sub).ve = s.ve := by
  simp [State.reportSafe]

@[simp] theorem State.reportSafe_au (d : SafeDirection) (sub : Option Lane) : (s.reportSafe d sub).au = s.au := by
  simp [State.reportSafe]

@[simp] theorem State.reportSafe_du (d : SafeDirection) (sub : Option Lane) : (s.reportSafe d sub).du = s.du := by
  simp [State.reportSafe]

/-- The spec of `State.reevaluate`: the flag and SAFE_N become what the mode and the members ask, the drive unit takes the
safe values exactly at an entry, and lanes, votes, authority and the restart collection are left. -/
theorem State.reevaluate_spec (sub : Option Lane) :
    s.SameBase (s.reevaluate sub) ∧ (s.reevaluate sub).lm = s.lm ∧ (s.reevaluate sub).ve = s.ve ∧
    (s.reevaluate sub).au = s.au ∧ (s.reevaluate sub).sc.flag = s.shouldBeSafe ∧
    (s.reevaluate sub).sc.safeN = (if s.sc.flag = s.shouldBeSafe then s.sc.safeN else safeLevel s.shouldBeSafe) ∧
    (s.reevaluate sub).sc.collection = s.sc.collection ∧
    (s.reevaluate sub).du =
      if s.shouldBeSafe = true ∧ s.sc.flag = false then s.du.handSafeValues s.cu.active else s.du := by
  unfold State.reevaluate
  cases hb : s.shouldBeSafe <;> cases hf : s.sc.flag
  · simp [State.SameBase.refl, hf]
  · simp only [Bool.false_eq_true, if_false, if_true, State.exitSafe]
    exact ⟨State.SameBase.trans (t := s.setSafe false) ⟨rfl, rfl, rfl, rfl, rfl, rfl⟩ (State.reportSafe_base _ _ _), by simp⟩
  · simp only [Bool.false_eq_true, if_false, if_true, State.enterSafe]
    exact ⟨State.SameBase.trans (t := (s.setSafe true).handSafeValues) ⟨rfl, rfl, rfl, rfl, rfl, rfl⟩
      (State.reportSafe_base _ _ _), by simp⟩
  · simp [State.SameBase.refl, hf]

theorem State.reevaluate_base (sub : Option Lane) : s.SameBase (s.reevaluate sub) := (s.reevaluate_spec sub).1

/-! ### The Authority Unit -/

/-- The spec of `State.changeHolder`: the new holder and claims with the epoch raised by one; lanes, votes, drive and
safe condition are left. -/
theorem State.changeHolder_spec (h : Option Lane) (c : List Lane) (cause : AuthCause) (l : Lane) :
    s.SameBase (s.changeHolder h c cause l) ∧ (s.changeHolder h c cause l).au = ⟨h, s.au.epoch + 1, c⟩ ∧
    (s.changeHolder h c cause l).lm = s.lm ∧ (s.changeHolder h c cause l).ve = s.ve ∧
    (s.changeHolder h c cause l).du = s.du ∧ (s.changeHolder h c cause l).sc = s.sc := by
  unfold State.changeHolder
  dsimp only
  generalize ht : State.notify _ _ _ = t
  have b : s.SameBase t := by subst ht; exact ⟨rfl, rfl, rfl, rfl, rfl, rfl⟩
  have f : t.au = ⟨h, s.au.epoch + 1, c⟩ ∧ t.lm = s.lm ∧ t.ve = s.ve ∧ t.du = s.du ∧ t.sc = s.sc := by
    subst ht
    exact ⟨rfl, rfl, rfl, rfl, rfl⟩
  exact ⟨b.trans (State.submit_base _ _ _), by simpa using f⟩

/-- The spec of `State.succeed`: it acts on authority, notices and the journal alone, the lane's claim goes, and the epoch
rises exactly where the lane held authority. -/
theorem State.succeed_spec (l : Lane) :
    s.SameBase (s.succeed l) ∧ (s.succeed l).lm = s.lm ∧ (s.succeed l).ve = s.ve ∧ (s.succeed l).du = s.du ∧
    (s.succeed l).sc = s.sc ∧
    (s.au.holder ≠ some l → (s.succeed l).au = s.au.dropClaim l) ∧
    (s.au.holder = some l → (s.succeed l).au.epoch = s.au.epoch + 1) := by
  unfold State.succeed
  dsimp only
  have hd : (s.au.dropClaim l).holder = s.au.holder := rfl
  have base : s.SameBase { s with au := s.au.dropClaim l } := ⟨rfl, rfl, rfl, rfl, rfl, rfl⟩
  by_cases hh : s.au.holder = some l
  · rw [if_pos (hd.trans hh)]
    have key : ∀ h c cause, ∀ t : State, t = ({ s with au := s.au.dropClaim l } : State).changeHolder h c cause l →
        s.SameBase t ∧ t.lm = s.lm ∧ t.ve = s.ve ∧ t.du = s.du ∧ t.sc = s.sc ∧
        (s.au.holder ≠ some l → t.au = s.au.dropClaim l) ∧ (s.au.holder = some l → t.au.epoch = s.au.epoch + 1) := by
      rintro h c cause t rfl
      obtain ⟨h1, h2, h3, h4, h5, h6⟩ := State.changeHolder_spec { s with au := s.au.dropClaim l } h c cause l
      exact ⟨base.trans h1, h3, h4, h5, h6, fun h => absurd hh h, fun _ => by rw [h2]; rfl⟩
    split
    · exact key _ _ _ _ rfl
    · split
      · exact key _ _ _ _ rfl
      · exact key _ _ _ _ rfl
  · rw [if_neg (fun h => hh (hd.symm.trans h))]
    exact ⟨base, rfl, rfl, rfl, rfl, fun _ => rfl, fun h => absurd h hh⟩

/-! ### The Lane Monitor -/

theorem State.laneNotices_spec (l : Lane) (old new : LaneState) (cause : LaneCause) :
    s.SameBase (s.laneNotices l old new cause) ∧ (s.laneNotices l old new cause).lm = s.lm ∧
    (s.laneNotices l old new cause).ve = s.ve ∧ (s.laneNotices l old new cause).au = s.au ∧
    (s.laneNotices l old new cause).sc = s.sc ∧ (s.laneNotices l old new cause).du = s.du ∧
    (s.laneNotices l old new cause).ij = s.ij := by
  unfold State.laneNotices
  cases new <;> exact ⟨⟨rfl, rfl, rfl, rfl, rfl, rfl⟩, rfl, rfl, rfl, rfl, rfl, rfl⟩

/-- The spec of `State.changeLane`: the lane's entry is that of the new state and no other lane's changes; the votes are
voided exactly at a departure; the configuration, the links, the time and the queue of commands are left. -/
theorem State.changeLane_spec (l : Lane) (new : LaneState) (cause : LaneCause) :
    s.SameBase (s.changeLane l new cause) ∧
    (s.changeLane l new cause).lm = s.lm.set l ((s.lane l).entered s.time s.global.exclusionHold new cause) ∧
    (s.changeLane l new cause).ve =
      (if ((s.laneState l).joined && !new.joined) = true then (s.void l).ve else s.ve) := by
  have hv : ∀ u : State, ∀ b : Bool, u.SameBase (if b = true then u.void l else u) ∧
      (if b = true then u.void l else u).lm = u.lm := by
    intro u b
    cases b <;> exact ⟨⟨rfl, rfl, rfl, rfl, rfl, rfl⟩, rfl⟩
  have hs : ∀ u : State, ∀ b : Bool, u.SameBase (if b = true then u.succeed l else u) ∧
      (if b = true then u.succeed l else u).lm = u.lm ∧ (if b = true then u.succeed l else u).ve = u.ve := by
    intro u b
    obtain ⟨h1, h2, h3, -⟩ := State.succeed_spec u l
    cases b
    · exact ⟨State.SameBase.refl u, rfl, rfl⟩
    · exact ⟨h1, h2, h3⟩
  have hr : ∀ u : State, ∀ b : Bool, u.SameBase (if b = true then u.removeVoter l else u) ∧
      (if b = true then u.removeVoter l else u).lm = u.lm ∧ (if b = true then u.removeVoter l else u).ve = u.ve := by
    intro u b
    cases b <;> exact ⟨⟨rfl, rfl, rfl, rfl, rfl, rfl⟩, rfl, rfl⟩
  unfold State.changeLane
  dsimp only
  generalize hs1 : s.putLane l _ = s1
  have b1 : s.SameBase s1 := by subst hs1; exact ⟨rfl, rfl, rfl, rfl, rfl, rfl⟩
  have m1 : s1.lm = s.lm.set l ((s.lane l).entered s.time s.global.exclusionHold new cause) := by subst hs1; rfl
  have e1 : ∀ b : Bool, (if b = true then s1.void l else s1).ve = if b = true then (s.void l).ve else s.ve := by
    subst hs1
    intro b
    cases b <;> rfl
  change s.SameBase _ ∧ _ ∧ _ = (if ((s.lane l).state.joined && !new.joined) = true then _ else _)
  rw [← e1]
  generalize hs2 : (if ((s.lane l).state.joined && !new.joined) = true then s1.void l else s1) = s2
  have b2 : s1.SameBase s2 ∧ s2.lm = s1.lm := by subst hs2; exact hv _ _
  obtain ⟨b3, m3, e3, -⟩ := State.laneNotices_spec s2 l (s.lane l).state new cause
  generalize s2.laneNotices l (s.lane l).state new cause = s3 at *
  have b4 := State.submit_base s3 (some l) (.lane (s.lane l).state new cause (s.lane l).strikes)
  have m4 : (s3.submit (some l) (.lane (s.lane l).state new cause (s.lane l).strikes)).lm = s3.lm := by simp
  have e4 : (s3.submit (some l) (.lane (s.lane l).state new cause (s.lane l).strikes)).ve = s3.ve := by simp
  generalize s3.submit (some l) (.lane (s.lane l).state new cause (s.lane l).strikes) = s4 at *
  obtain ⟨b5, m5, e5⟩ := hs s4 ((s.lane l).state == .member && new != .member)
  generalize (if ((s.lane l).state == .member && new != .member) = true then s4.succeed l else s4) = s5 at *
  obtain ⟨b6, m6, e6⟩ := hr s5 ((s.lane l).state == .member && new != .member)
  generalize (if ((s.lane l).state == .member && new != .member) = true then s5.removeVoter l else s5) = s6 at *
  obtain ⟨b7, m7, e7, -⟩ := State.reevaluate_spec s6 (some l)
  refine ⟨b1.trans (b2.1.trans (b3.trans (b4.trans (b5.trans (b6.trans b7))))), ?_, ?_⟩
  · rw [m7, m6, m5, m4, m3, b2.2, m1]
  · rw [e7, e6, e5, e4, e3]

theorem State.changeLane_base (l : Lane) (new : LaneState) (cause : LaneCause) : s.SameBase (s.changeLane l new cause) :=
  (s.changeLane_spec l new cause).1

theorem State.lane_changeLane (l m : Lane) (new : LaneState) (cause : LaneCause) :
    (s.changeLane l new cause).lane m =
      if m = l then (s.lane l).entered s.time s.global.exclusionHold new cause else s.lane m := by
  rw [State.lane, (s.changeLane_spec l new cause).2.1, PerLane.get_set]
  rfl

@[simp] theorem LaneEntry.entered_state (now : Time) (hold : Nat) (new : LaneState) (cause : LaneCause)
    (e : LaneEntry) : (e.entered now hold new cause).state = new := by
  cases new <;> rfl

@[simp] theorem LaneEntry.entered_lastCause (now : Time) (hold : Nat) (new : LaneState) (cause : LaneCause)
    (e : LaneEntry) : (e.entered now hold new cause).lastCause = cause := by
  cases new <;> rfl

theorem State.demoteProbation_base (l : Lane) : s.SameBase (s.demoteProbation l) := by
  unfold State.demoteProbation
  split
  · exact s.changeLane_base _ _ _
  · exact State.SameBase.refl s

theorem State.moveLane_base (l : Lane) (new : LaneState) (cause : LaneCause) : s.SameBase (s.moveLane l new cause) := by
  unfold State.moveLane
  dsimp only
  split
  · exact (s.changeLane_base _ _ _).trans
      ((State.demoteProbation_base _ _).trans ((State.demoteProbation_base _ _).trans (State.demoteProbation_base _ _)))
  · exact s.changeLane_base _ _ _

theorem State.depart_base (l : Lane) (cause : LaneCause) : s.SameBase (s.depart l cause) := by
  unfold State.depart
  split
  · exact s.moveLane_base _ _ _
  · exact s.moveLane_base _ _ _
  · exact State.SameBase.refl s

theorem State.putLane_base (l : Lane) (e : LaneEntry) : s.SameBase (s.putLane l e) := ⟨rfl, rfl, rfl, rfl, rfl, rfl⟩

theorem State.strike_base (l : Lane) (cause : LaneCause) : s.SameBase (s.strike l cause) := by
  unfold State.strike
  dsimp only
  split
  · exact (s.putLane_base _ _).trans (State.moveLane_base _ _ _ _)
  · exact s.putLane_base _ _

theorem State.cleanVote_base (l : Lane) : s.SameBase (s.cleanVote l) := by
  unfold State.cleanVote
  dsimp only
  split <;> exact s.putLane_base _ _

theorem State.creditLane_base (l : Lane) : s.SameBase (s.creditLane l) := by
  unfold State.creditLane
  dsimp only
  split
  · exact (s.putLane_base _ _).trans (State.moveLane_base _ _ _ _)
  · exact s.putLane_base _ _

theorem State.takeVerdict_base (l : Lane) (v : Option Verdict) : s.SameBase (s.takeVerdict l v) := by
  unfold State.takeVerdict
  split
  · exact s.strike_base _ _
  · exact s.strike_base _ _
  · exact s.cleanVote_base _
  · exact s.creditLane_base _
  · exact s.moveLane_base _ _ _
  · exact State.SameBase.refl s

theorem State.takeVerdicts_base (v : PerLane (Option Verdict)) : s.SameBase (s.takeVerdicts v) :=
  (s.takeVerdict_base _ _).trans ((State.takeVerdict_base _ _ _).trans (State.takeVerdict_base _ _ _))

end Sys2Proof.Machine
end

