-- ==== Sys2Proof/Laws/Requests.lean ====
section
/-! SUPPORT. What closings, proposals and the owners of requests leave of the state, and how a request on a link that takes
it at once is served. -/

namespace Sys2Proof.Machine

variable (s : State)

/-! ### Closings and proposals -/

theorem State.handOptional_base (p : Fin 64) (v : Option Value) : s.SameBase (s.handOptional p v) := by
  cases v <;> exact ⟨rfl, rfl, rfl, rfl, rfl, rfl⟩

theorem State.submitOutcome_base (d : Decision) (r : OutcomeReport) : s.SameBase (s.submitOutcome d r) := by
  unfold State.submitOutcome
  split
  · exact s.submit_base _ _
  · exact State.SameBase.refl s

theorem State.closeSlot_base (p : Fin 64) (x : Slot) (rest : List Slot) (cause : CloseCause) :
    s.SameBase (s.closeSlot p x rest cause) := by
  unfold State.closeSlot
  dsimp only
  refine State.SameBase.trans ?_ (State.takeVerdicts_base _ _)
  refine State.SameBase.trans ?_ (State.submitOutcome_base _ _ _)
  refine State.SameBase.trans ?_ (State.notify_base _ _ _)
  refine State.SameBase.trans ?_ (State.handOptional_base _ _ _)
  exact ⟨rfl, rfl, rfl, rfl, rfl, rfl⟩

theorem State.closeChain_base (n : Nat) (p : Fin 64) (cause : CloseCause) : s.SameBase (s.closeChain n p cause) := by
  induction n generalizing s cause with
  | zero => exact State.SameBase.refl s
  | succ n ih =>
    unfold State.closeChain
    split
    · exact State.SameBase.refl s
    · dsimp only
      split
      · exact (s.closeSlot_base _ _ _ _).trans (ih _ _)
      · exact s.closeSlot_base _ _ _ _

theorem State.closePoint_base (p : Fin 64) (cause : CloseCause) : s.SameBase (s.closePoint p cause) :=
  s.closeChain_base _ _ _

theorem State.expireWindow_base (p : Fin 64) (n : Serial) : s.SameBase (s.expireWindow p n) := by
  unfold State.expireWindow
  split
  · exact State.SameBase.refl s
  · split
    · split
      · exact s.closePoint_base _ _
      · exact State.SameBase.refl s
    · exact ⟨rfl, rfl, rfl, rfl, rfl, rfl⟩

theorem State.closeDeparted_base (p : Fin 64) : s.SameBase (s.closeDeparted p) := by
  unfold State.closeDeparted
  split
  · exact State.SameBase.refl s
  · split
    · exact s.closePoint_base _ _
    · exact State.SameBase.refl s

theorem State.settleFirst_base (p : Fin 64) (x : Slot) (rest : List Slot) : s.SameBase (s.settleFirst p x rest) := by
  unfold State.settleFirst
  dsimp only
  split
  · exact State.SameBase.trans (t := s.putSlots p (x :: rest)) ⟨rfl, rfl, rfl, rfl, rfl, rfl⟩
      (State.closePoint_base _ _ _)
  · exact ⟨rfl, rfl, rfl, rfl, rfl, rfl⟩

theorem State.proposeAt_base (p : Fin 64) (l : Lane) (e : ProposeEntry) : s.SameBase (s.proposeAt p l e).2 := by
  unfold State.proposeAt
  dsimp only
  repeat' split
  all_goals first
    | exact State.SameBase.refl s
    | exact s.settleFirst_base _ _ _
    | exact ⟨rfl, rfl, rfl, rfl, rfl, rfl⟩

theorem State.proposeEntry_base (l : Lane) (e : ProposeEntry) : s.SameBase (s.proposeEntry l e).2 := by
  unfold State.proposeEntry
  dsimp only
  repeat' split
  all_goals first
    | exact State.SameBase.refl s
    | exact s.proposeAt_base _ _ _

theorem State.proposeEntries_base (l : Lane) (es : List ProposeEntry) : s.SameBase (s.proposeEntries l es).2 := by
  induction es generalizing s with
  | nil => exact State.SameBase.refl s
  | cons e rest ih => exact (s.proposeEntry_base l e).trans (ih _)

theorem State.proposeEntries_length (l : Lane) (es : List ProposeEntry) :
    (s.proposeEntries l es).1.length = es.length := by
  induction es generalizing s with
  | nil => rfl
  | cons e rest ih => simp [State.proposeEntries, ih]

/-! ### Restart -/

theorem State.restartLane_base (l : Lane) : s.SameBase (s.restartLane l) := by
  unfold State.restartLane
  dsimp only
  split
  · exact State.SameBase.refl s
  · exact ⟨rfl, rfl, rfl, rfl, rfl, rfl⟩
  · refine State.SameBase.trans ?_ (State.submit_base _ _ _)
    exact ⟨rfl, rfl, rfl, rfl, rfl, rfl⟩

theorem State.clearAuthority_base : s.SameBase s.clearAuthority := by
  unfold State.clearAuthority
  split
  · exact ⟨rfl, rfl, rfl, rfl, rfl, rfl⟩
  · refine State.SameBase.trans ?_ (State.submit_base _ _ _)
    exact ⟨rfl, rfl, rfl, rfl, rfl, rfl⟩

theorem State.restartSafe_base : s.SameBase s.restartSafe := by
  unfold State.restartSafe
  dsimp only
  split
  · exact ⟨rfl, rfl, rfl, rfl, rfl, rfl⟩
  · exact State.SameBase.trans (t := (s.setSafe true).handSafeValues) ⟨rfl, rfl, rfl, rfl, rfl, rfl⟩
      (State.submit_base _ _ _)

theorem State.warmRestart_base (kind : RestartKind) (voters : LaneSet) : s.SameBase (s.warmRestart kind voters) := by
  unfold State.warmRestart
  dsimp only
  refine State.SameBase.trans ?_ (State.restartSafe_base _)
  refine State.SameBase.trans ?_ (State.clearAuthority_base _)
  refine State.SameBase.trans ?_ (State.restartLane_base _ _)
  refine State.SameBase.trans ?_ (State.restartLane_base _ _)
  refine State.SameBase.trans ?_ (State.restartLane_base _ _)
  have b := s.submit_base none (.restart kind voters)
  exact ⟨b.resetN, b.straps, b.time, b.cu, b.lu, b.pending⟩

/-! ### The owners of requests -/

theorem State.takeBeat_base (l : Lane) (h : Health) : s.SameBase (s.takeBeat l h) := by
  unfold State.takeBeat
  split
  · split
    · exact ⟨rfl, rfl, rfl, rfl, rfl, rfl⟩
    · exact State.SameBase.refl s
  · exact s.depart_base _ _

theorem State.acceptJoin_base (l : Lane) : s.SameBase (s.acceptJoin l).state := by
  unfold State.acceptJoin
  dsimp only
  split <;> exact (s.putLane_base _ _).trans (State.moveLane_base _ _ _ _)

theorem State.changeHolder_base (h : Option Lane) (c : List Lane) (cause : AuthCause) (l : Lane) :
    s.SameBase (s.changeHolder h c cause l) := (s.changeHolder_spec h c cause l).1

theorem State.clearPoint_base (p : Fin 64) (sub : Option Lane) : s.SameBase (s.clearPoint p sub) := by
  unfold State.clearPoint
  dsimp only
  refine State.SameBase.trans ?_ (State.submit_base _ _ _)
  exact ⟨rfl, rfl, rfl, rfl, rfl, rfl⟩

theorem State.rearm_base (sub : Option Lane) : s.SameBase (s.rearm sub) := by
  unfold State.rearm
  exact State.SameBase.trans (t := { s with ij := s.ij.rearmed }) ⟨rfl, rfl, rfl, rfl, rfl, rfl⟩
    (State.submit_base _ _ _)

theorem servePropose_base (l : Lane) (b : List Byte) : s.SameBase (servePropose l b s).state := by
  unfold servePropose
  dsimp only
  repeat' split
  all_goals first
    | exact State.SameBase.refl s
    | exact s.proposeEntries_base _ _

theorem serveJoin_base (l : Lane) (b : List Byte) : s.SameBase (serveJoin l b s).state := by
  unfold serveJoin
  dsimp only
  repeat' split
  all_goals first
    | exact State.SameBase.refl s
    | exact s.acceptJoin_base _

theorem serveLeave_base (l : Lane) (b : List Byte) : s.SameBase (serveLeave l b s).state := by
  unfold serveLeave
  repeat' split
  all_goals first
    | exact State.SameBase.refl s
    | exact s.moveLane_base _ _ _

theorem serveBeat_base (l : Lane) (b : List Byte) : s.SameBase (serveBeat l b s).state := by
  unfold serveBeat
  dsimp only
  split
  · exact State.SameBase.refl s
  · exact (s.takeBeat_base _ _).trans (State.putLane_base _ _ _)

theorem serveClaim_base (l : Lane) (b : List Byte) : s.SameBase (serveClaim l b s).state := by
  unfold serveClaim
  dsimp only
  repeat' split
  all_goals first
    | exact State.SameBase.refl s
    | exact s.changeHolder_base _ _ _ _
    | exact ⟨rfl, rfl, rfl, rfl, rfl, rfl⟩

theorem serveYield_base (l : Lane) (b : List Byte) : s.SameBase (serveYield l b s).state := by
  unfold serveYield
  dsimp only
  repeat' split
  all_goals first
    | exact State.SameBase.refl s
    | exact s.changeHolder_base _ _ _ _

theorem serveWithdraw_base (l : Lane) (b : List Byte) : s.SameBase (serveWithdraw l b s).state := by
  unfold serveWithdraw
  repeat' split
  all_goals exact ⟨rfl, rfl, rfl, rfl, rfl, rfl⟩

theorem serveRestart_base (l : Lane) (b : List Byte) : s.SameBase (serveRestart l b s).state := by
  unfold serveRestart
  dsimp only
  repeat' split
  all_goals first
    | exact State.SameBase.refl s
    | exact ⟨rfl, rfl, rfl, rfl, rfl, rfl⟩
    | (refine State.SameBase.trans ?_ (State.warmRestart_base _ _ _)
       exact ⟨rfl, rfl, rfl, rfl, rfl, rfl⟩)

theorem serveMaintenanceRestart_base (b : List Byte) : s.SameBase (serveMaintenanceRestart b s).state := by
  unfold serveMaintenanceRestart
  repeat' split
  all_goals first
    | exact State.SameBase.refl s
    | exact s.warmRestart_base _ _

/-- POINT_READ changes no state. -/
@[simp] theorem servePointRead_state (b : List Byte) : (servePointRead b s).state = s := by
  unfold servePointRead
  repeat' split
  all_goals rfl

theorem servePointClear_base (link : ReqLink) (b : List Byte) : s.SameBase (servePointClear link b s).state := by
  unfold servePointClear
  repeat' split
  all_goals first
    | exact State.SameBase.refl s
    | exact s.clearPoint_base _ _

/-- JOURNAL_READ changes no state. -/
@[simp] theorem serveJournalRead_state (link : ReqLink) (b : List Byte) : (serveJournalRead link b s).state = s := by
  unfold serveJournalRead
  repeat' split
  all_goals rfl

theorem serveJournalRearm_base (link : ReqLink) (b : List Byte) : s.SameBase (serveJournalRearm link b s).state := by
  unfold serveJournalRearm
  repeat' split
  all_goals first
    | exact State.SameBase.refl s
    | exact s.rearm_base _

/-- CFG_READ changes no state. -/
@[simp] theorem serveCfgRead_state (b : List Byte) : (serveCfgRead b s).state = s := by
  unfold serveCfgRead
  repeat' split
  all_goals rfl

/-- A request from a lane, whatever its kind, leaves the configuration, the links, the time and the queue of commands. -/
theorem serve_lane_base (l : Lane) (r : Request) : s.SameBase (serve (.lane l) r s).state := by
  unfold serve
  split
  · exact State.SameBase.refl s
  · rename_i k _
    cases k
    · exact servePropose_base s l _
    · exact serveJoin_base s l _
    · exact serveLeave_base s l _
    · exact serveBeat_base s l _
    · exact serveClaim_base s l _
    · exact serveYield_base s l _
    · exact serveWithdraw_base s l _
    · exact serveRestart_base s l _
    · simp only [serveKind, servePointRead_state]
      exact State.SameBase.refl s
    · exact servePointClear_base s _ _
    · simp only [serveKind, serveJournalRead_state]
      exact State.SameBase.refl s
    · exact serveJournalRearm_base s _ _
    all_goals exact State.SameBase.refl s

/-! ### Requests taken at once -/

/-- A request on a link that takes it at once: stored in a buffer, served, answered. -/
theorem State.receive_of_takesAtOnce {link : ReqLink} (r : Request) (h : s.TakesAtOnce link) :
    s.receive link r =
      State.queueReply link r (serve link r (s.putLink link.link { s.link link.link with
        waiting := [r]
        peerCredit := (s.link link.link).peerCredit - 1
        silence := some (s.time + 1) })) := by
  obtain ⟨-, hup, hw, hr⟩ := h
  have hf : (s.link link.link).freeBuffers ≠ 0 := by simp [LinkUnit.freeBuffers, hw, Config.bufferCount]
  have ha : after s.time Config.silenceUnits = s.time + 1 := rfl
  have he : (s.putLink link.link ((s.link link.link).heard s.time)).bufferRequest link r =
      s.putLink link.link { s.link link.link with
        waiting := [r]
        peerCredit := (s.link link.link).peerCredit - 1
        silence := some (s.time + 1) } := by
    simp [State.bufferRequest, LinkUnit.heard, hw, ha]
  unfold State.receive State.withFrame
  dsimp only
  rw [if_pos hup, if_neg hf, he]
  unfold State.takeRequests
  have hl : ∀ u : LinkUnit, ((s.putLink link.link u).link link.link) = u := fun u => State.link_putLink_self _ _ _
  rw [hl]
  simp only [List.length_singleton]
  unfold State.takeWaiting
  rw [hl]
  simp only [Config.replyCapacity, if_pos hr]
  rfl

/-- The command of a request of a known kind, on a link that takes it at once. -/
theorem State.whenPowered_receive {link : ReqLink} (r : Request) (h : s.TakesAtOnce link) :
    s.whenPowered (State.receive link r) =
      .next (State.queueReply link r (serve link r (s.putLink link.link { s.link link.link with
        waiting := [r]
        peerCredit := (s.link link.link).peerCredit - 1
        silence := some (s.time + 1) }))) := by
  rw [← s.receive_of_takesAtOnce r h, State.whenPowered, if_pos h.1]

/-- An answer that changes nothing is the reply alone. -/
theorem State.queueReply_of_unchanged {link : ReqLink} (r : Request) (result : Result) (fields : ReplyFields)
    (h : s.TakesAtOnce link) :
    State.queueReply link r ⟨s.putLink link.link { s.link link.link with
        waiting := [r]
        peerCredit := (s.link link.link).peerCredit - 1
        silence := some (s.time + 1) }, result, fields⟩ =
      s.replied link ⟨r.kind, r.tag, result, fields⟩ := by
  obtain ⟨-, -, hw, -⟩ := h
  simp [State.queueReply, State.replied, hw]

end Sys2Proof.Machine
end

