-- ==== Sys2Proof/Laws/Links.lean ====
section
/-! SUPPORT. What the link units' operations and the drive path do, said once for each. -/

namespace Sys2Proof.Machine

variable (s : State)

/-! ### Frames and link errors -/

theorem LinkUnit.toOff_eq_fallen (now : Time) (u : LinkUnit) : u.toOff now = u.fallen now := by
  have h : satInc 255 u.restarts = min 255 (u.restarts + 1) := satInc_eq_min 255 u.restarts
  simp only [LinkUnit.toOff, LinkUnit.fallen, h]
  rfl

theorem LinkUnit.fallen_heard (now : Time) (u : LinkUnit) : (u.heard now).fallen now = u.fallen now := rfl

theorem State.linkDown_of_not_up {l : Link} (cause : LinkCause) (h : (s.link l).state.up = false) :
    s.linkDown l cause = s := by
  simp [State.linkDown, h]

theorem State.linkLost_base (l : Link) : s.SameBase (s.linkLost l) := by
  unfold State.linkLost
  split
  · exact s.depart_base _ _
  · exact State.SameBase.refl s

/-- The spec of `State.linkDown` in READY and RUN: the link has fallen, every other link, the configuration, the time
and the queue of commands are left. -/
theorem State.linkDown_spec {l : Link} (cause : LinkCause) (h : (s.link l).state.up = true) :
    (s.putLink l ((s.link l).fallen s.time)).SameBase (s.linkDown l cause) := by
  unfold State.linkDown
  dsimp only
  rw [if_pos h, LinkUnit.toOff_eq_fallen]
  refine State.SameBase.trans ?_ (State.submit_base _ _ _)
  split
  · exact State.linkLost_base _ _
  · exact State.SameBase.refl _

theorem State.withFrame_of_not_up {l : Link} (k : State → State) (h : (s.link l).state.up = false) :
    s.withFrame l k = s := by
  simp [State.withFrame, h]

theorem State.withFrame_of_room {l : Link} (k : State → State) (h : (s.link l).state.up = true)
    (hw : (s.link l).waiting.length < 4) : s.withFrame l k = k (s.frameHeard l) := by
  have hf : (s.link l).freeBuffers ≠ 0 := by
    simp only [LinkUnit.freeBuffers, Config.bufferCount]
    omega
  simp only [State.withFrame, h, hf, if_true, if_false]
  rfl

theorem State.withFrame_of_full {l : Link} (k : State → State) (h : (s.link l).state.up = true)
    (hw : 4 ≤ (s.link l).waiting.length) : s.withFrame l k = s.linkDown l .credit := by
  have hf : (s.link l).freeBuffers = 0 := by
    simp only [LinkUnit.freeBuffers, Config.bufferCount]
    omega
  simp only [State.withFrame, h, hf, if_true]

/-! ### The drive path -/

theorem State.failApply_base (e : EchoEntry) (cause : ApplyCause) (r : Option Value) :
    s.SameBase (s.failApply e cause r) := by
  unfold State.failApply
  dsimp only
  split
  all_goals
    refine State.SameBase.trans ?_ (State.submit_base _ _ _)
    exact ⟨rfl, rfl, rfl, rfl, rfl, rfl⟩

theorem State.settleEcho_base (e : EchoEntry) (st : EchoStatus) (r : Option Value) :
    s.SameBase (s.settleEcho e st r) := by
  unfold State.settleEcho
  split
  · split
    · exact ⟨rfl, rfl, rfl, rfl, rfl, rfl⟩
    · exact s.failApply_base _ _ _
  · exact s.failApply_base _ _ _

/-- An ECHO leaves the configuration, the links, the time and the queue of commands. -/
theorem State.takeEcho_base (p t : Byte) (st : EchoStatus) (r : Option Value) : s.SameBase (s.takeEcho p t st r) := by
  unfold State.takeEcho
  split
  · exact s.settleEcho_base _ _ _
  · exact s.submit_base _ _

/-- A dispatch acts on the Drive Unit and the drive link alone. -/
theorem State.dispatchHead_spec :
    ∃ du u, s.dispatchHead = { s.putLink .dl u with du := du } := by
  unfold State.dispatchHead
  split
  · exact ⟨s.du, s.link .dl, by simp [State.putLink, State.link]⟩
  · split
    · exact ⟨_, _, rfl⟩
    · exact ⟨s.du, s.link .dl, by simp [State.putLink, State.link]⟩

/-- The tag of a dispatch is held by no entry of the echo table, while the table has room (R122). -/
theorem freeTag_spec (echoes : List EchoEntry) (n : Nat) (t : Byte) :
    (∃ j < n, freeTag echoes n t = t + 1 + BitVec.ofNat 8 j ∧ ∀ e ∈ echoes, e.tag ≠ freeTag echoes n t) ∨
      ∀ j < n, ∃ e ∈ echoes, e.tag = t + 1 + BitVec.ofNat 8 j := by
  induction n generalizing t with
  | zero => exact .inr fun j h => absurd h (Nat.not_lt_zero j)
  | succ n ih =>
    have shift : ∀ j : Nat, t + 1 + 1 + BitVec.ofNat 8 j = t + 1 + BitVec.ofNat 8 (j + 1) := by
      intro j
      have h : BitVec.ofNat 8 (j + 1) = BitVec.ofNat 8 j + 1 := BitVec.ofNat_add j 1
      rw [h]
      ac_rfl
    by_cases h : echoes.any (fun e => e.tag == t + 1) = true
    · have hf : freeTag echoes (n + 1) t = freeTag echoes n (t + 1) := by simp only [freeTag, h, if_true]
      rcases ih (t + 1) with ⟨j, hj, he, hn⟩ | hall
      · exact .inl ⟨j + 1, Nat.succ_lt_succ hj, by rw [hf, he, shift], by rw [hf]; exact hn⟩
      · refine .inr fun j hj => ?_
        cases j with
        | zero =>
          obtain ⟨e, he, ht⟩ := List.any_eq_true.mp h
          exact ⟨e, he, by simpa using ht⟩
        | succ j =>
          obtain ⟨e, he, ht⟩ := hall j (Nat.lt_of_succ_lt_succ hj)
          exact ⟨e, he, by rw [ht, shift]⟩
    · have hf : freeTag echoes (n + 1) t = t + 1 := by simp only [freeTag, h]; rfl
      refine .inl ⟨0, Nat.succ_pos n, by rw [hf]; simp, fun e he => ?_⟩
      rw [hf]
      intro ht
      exact h (List.any_eq_true.mpr ⟨e, he, by simpa using ht⟩)

end Sys2Proof.Machine
end

