-- ==== Sys2Proof/Laws/PerInstr.lean ====
section
/-! SUPPORT. Statements about every command, made one lemma per constructor of `Instr`. -/

namespace Sys2Proof

/-- The payload bytes a command carries, if it is a frame received. -/
def Laws.payloadOf : Instr → Option (List Byte)
  | .propose _ _ p => some p
  | .join _ _ p => some p
  | .leave _ _ p => some p
  | .beat _ _ p => some p
  | .claim _ _ p => some p
  | .yield _ _ p => some p
  | .withdraw _ _ p => some p
  | .restart _ _ p => some p
  | .maintenanceRestart _ p => some p
  | .pointRead _ _ p => some p
  | .pointClear _ _ p => some p
  | .journalRead _ _ p => some p
  | .journalRearm _ _ p => some p
  | .cfgOpen _ _ p => some p
  | .cfgWrite _ _ p => some p
  | .cfgRead _ _ p => some p
  | .cfgCommit _ _ p => some p
  | .cfgAbort _ _ p => some p
  | .status _ _ p => some p
  | .badKind _ _ _ p => some p
  | .echo _ p => some p
  | .dispatch => none
  | .echoDeadline _ _ => none
  | .windowExpiry _ _ => none
  | .departureClosing _ => none
  | .beatTimeout _ => none
  | .holdExpiry _ => none
  | .collectionDeadline => none
  | .backoffExpiry _ => none
  | .handshakeExpiry _ => none
  | .silenceTimeout _ => none
  | .codeError _ => none
  | .framingError _ _ => none
  | .grant _ => none
  | .idleReceived _ => none
  | .abandon _ => none
  | .discardedFrame _ _ => none
  | .linkEnable _ => none
  | .linkDisable _ => none
  | .sendReply _ => none
  | .sendNotice _ => none
  | .frameSent _ => none
  | .resetAssert => none
  | .resetRelease _ => none
  | .timeUnitTick => none
  | .startNoFreeBuffer _ => none

/-- A well-formed command carries no payload longer than a frame holds (R180). -/
def Laws.PayloadFits.Statement (i : Instr) : Prop :=
  i.wellFormed = true → ∀ p, Laws.payloadOf i = some p → p.length ≤ 128

theorem Laws.PayloadFits.propose (link : ReqLink) (tag : Byte) (payload : List Byte) :
    Laws.PayloadFits.Statement (.propose link tag payload) := by
  intro h p hp
  cases hp
  exact of_decide_eq_true h

theorem Laws.PayloadFits.join (link : ReqLink) (tag : Byte) (payload : List Byte) :
    Laws.PayloadFits.Statement (.join link tag payload) := by
  intro h p hp
  cases hp
  exact of_decide_eq_true h

theorem Laws.PayloadFits.leave (link : ReqLink) (tag : Byte) (payload : List Byte) :
    Laws.PayloadFits.Statement (.leave link tag payload) := by
  intro h p hp
  cases hp
  exact of_decide_eq_true h

theorem Laws.PayloadFits.beat (link : ReqLink) (tag : Byte) (payload : List Byte) :
    Laws.PayloadFits.Statement (.beat link tag payload) := by
  intro h p hp
  cases hp
  exact of_decide_eq_true h

theorem Laws.PayloadFits.claim (link : ReqLink) (tag : Byte) (payload : List Byte) :
    Laws.PayloadFits.Statement (.claim link tag payload) := by
  intro h p hp
  cases hp
  exact of_decide_eq_true h

theorem Laws.PayloadFits.yield (link : ReqLink) (tag : Byte) (payload : List Byte) :
    Laws.PayloadFits.Statement (.yield link tag payload) := by
  intro h p hp
  cases hp
  exact of_decide_eq_true h

theorem Laws.PayloadFits.withdraw (link : ReqLink) (tag : Byte) (payload : List Byte) :
    Laws.PayloadFits.Statement (.withdraw link tag payload) := by
  intro h p hp
  cases hp
  exact of_decide_eq_true h

theorem Laws.PayloadFits.restart (lane : Lane) (tag : Byte) (payload : List Byte) :
    Laws.PayloadFits.Statement (.restart lane tag payload) := by
  intro h p hp
  cases hp
  exact of_decide_eq_true h

theorem Laws.PayloadFits.maintenanceRestart (tag : Byte) (payload : List Byte) :
    Laws.PayloadFits.Statement (.maintenanceRestart tag payload) := by
  intro h p hp
  cases hp
  exact of_decide_eq_true h

theorem Laws.PayloadFits.pointRead (link : ReqLink) (tag : Byte) (payload : List Byte) :
    Laws.PayloadFits.Statement (.pointRead link tag payload) := by
  intro h p hp
  cases hp
  exact of_decide_eq_true h

theorem Laws.PayloadFits.pointClear (link : ReqLink) (tag : Byte) (payload : List Byte) :
    Laws.PayloadFits.Statement (.pointClear link tag payload) := by
  intro h p hp
  cases hp
  exact of_decide_eq_true h

theorem Laws.PayloadFits.journalRead (link : ReqLink) (tag : Byte) (payload : List Byte) :
    Laws.PayloadFits.Statement (.journalRead link tag payload) := by
  intro h p hp
  cases hp
  exact of_decide_eq_true h

theorem Laws.PayloadFits.journalRearm (link : ReqLink) (tag : Byte) (payload : List Byte) :
    Laws.PayloadFits.Statement (.journalRearm link tag payload) := by
  intro h p hp
  cases hp
  exact of_decide_eq_true h

theorem Laws.PayloadFits.cfgOpen (link : ReqLink) (tag : Byte) (payload : List Byte) :
    Laws.PayloadFits.Statement (.cfgOpen link tag payload) := by
  intro h p hp
  cases hp
  exact of_decide_eq_true h

theorem Laws.PayloadFits.cfgWrite (link : ReqLink) (tag : Byte) (payload : List Byte) :
    Laws.PayloadFits.Statement (.cfgWrite link tag payload) := by
  intro h p hp
  cases hp
  exact of_decide_eq_true h

theorem Laws.PayloadFits.cfgRead (link : ReqLink) (tag : Byte) (payload : List Byte) :
    Laws.PayloadFits.Statement (.cfgRead link tag payload) := by
  intro h p hp
  cases hp
  exact of_decide_eq_true h

theorem Laws.PayloadFits.cfgCommit (link : ReqLink) (tag : Byte) (payload : List Byte) :
    Laws.PayloadFits.Statement (.cfgCommit link tag payload) := by
  intro h p hp
  cases hp
  exact of_decide_eq_true h

theorem Laws.PayloadFits.cfgAbort (link : ReqLink) (tag : Byte) (payload : List Byte) :
    Laws.PayloadFits.Statement (.cfgAbort link tag payload) := by
  intro h p hp
  cases hp
  exact of_decide_eq_true h

theorem Laws.PayloadFits.status (link : ReqLink) (tag : Byte) (payload : List Byte) :
    Laws.PayloadFits.Statement (.status link tag payload) := by
  intro h p hp
  cases hp
  exact of_decide_eq_true h

theorem Laws.PayloadFits.badKind (link : ReqLink) (kind : Byte) (tag : Byte) (payload : List Byte) :
    Laws.PayloadFits.Statement (.badKind link kind tag payload) := by
  intro h p hp
  cases hp
  simp only [Instr.wellFormed, Bool.and_eq_true] at h
  exact of_decide_eq_true h.1

theorem Laws.PayloadFits.echo (tag : Byte) (payload : List Byte) :
    Laws.PayloadFits.Statement (.echo tag payload) := by
  intro h p hp
  cases hp
  simp only [Instr.wellFormed, Machine.echoWellFormed] at h
  split at h
  · simp
  · simp
  · cases h

theorem Laws.PayloadFits.dispatch :
    Laws.PayloadFits.Statement .dispatch := by
  intro _ p hp
  cases hp

theorem Laws.PayloadFits.echoDeadline (point : Fin 64) (tag : Byte) :
    Laws.PayloadFits.Statement (.echoDeadline point tag) := by
  intro _ p hp
  cases hp

theorem Laws.PayloadFits.windowExpiry (point : Fin 64) (serial : Serial) :
    Laws.PayloadFits.Statement (.windowExpiry point serial) := by
  intro _ p hp
  cases hp

theorem Laws.PayloadFits.departureClosing (point : Fin 64) :
    Laws.PayloadFits.Statement (.departureClosing point) := by
  intro _ p hp
  cases hp

theorem Laws.PayloadFits.beatTimeout (lane : Lane) :
    Laws.PayloadFits.Statement (.beatTimeout lane) := by
  intro _ p hp
  cases hp

theorem Laws.PayloadFits.holdExpiry (lane : Lane) :
    Laws.PayloadFits.Statement (.holdExpiry lane) := by
  intro _ p hp
  cases hp

theorem Laws.PayloadFits.collectionDeadline :
    Laws.PayloadFits.Statement .collectionDeadline := by
  intro _ p hp
  cases hp

theorem Laws.PayloadFits.backoffExpiry (link : Link) :
    Laws.PayloadFits.Statement (.backoffExpiry link) := by
  intro _ p hp
  cases hp

theorem Laws.PayloadFits.handshakeExpiry (link : Link) :
    Laws.PayloadFits.Statement (.handshakeExpiry link) := by
  intro _ p hp
  cases hp

theorem Laws.PayloadFits.silenceTimeout (link : Link) :
    Laws.PayloadFits.Statement (.silenceTimeout link) := by
  intro _ p hp
  cases hp

theorem Laws.PayloadFits.codeError (link : Link) :
    Laws.PayloadFits.Statement (.codeError link) := by
  intro _ p hp
  cases hp

theorem Laws.PayloadFits.framingError (link : Link) (how : FramingFault) :
    Laws.PayloadFits.Statement (.framingError link how) := by
  intro _ p hp
  cases hp

theorem Laws.PayloadFits.grant (link : Link) :
    Laws.PayloadFits.Statement (.grant link) := by
  intro _ p hp
  cases hp

theorem Laws.PayloadFits.idleReceived (link : Link) :
    Laws.PayloadFits.Statement (.idleReceived link) := by
  intro _ p hp
  cases hp

theorem Laws.PayloadFits.abandon (link : Link) :
    Laws.PayloadFits.Statement (.abandon link) := by
  intro _ p hp
  cases hp

theorem Laws.PayloadFits.discardedFrame (link : Link) (data : List Byte) :
    Laws.PayloadFits.Statement (.discardedFrame link data) := by
  intro _ p hp
  cases hp

theorem Laws.PayloadFits.linkEnable (lane : Lane) :
    Laws.PayloadFits.Statement (.linkEnable lane) := by
  intro _ p hp
  cases hp

theorem Laws.PayloadFits.linkDisable (lane : Lane) :
    Laws.PayloadFits.Statement (.linkDisable lane) := by
  intro _ p hp
  cases hp

theorem Laws.PayloadFits.sendReply (link : ReqLink) :
    Laws.PayloadFits.Statement (.sendReply link) := by
  intro _ p hp
  cases hp

theorem Laws.PayloadFits.sendNotice (lane : Lane) :
    Laws.PayloadFits.Statement (.sendNotice lane) := by
  intro _ p hp
  cases hp

theorem Laws.PayloadFits.frameSent (link : Link) :
    Laws.PayloadFits.Statement (.frameSent link) := by
  intro _ p hp
  cases hp

theorem Laws.PayloadFits.resetAssert :
    Laws.PayloadFits.Statement .resetAssert := by
  intro _ p hp
  cases hp

theorem Laws.PayloadFits.resetRelease (straps : LaneSet) :
    Laws.PayloadFits.Statement (.resetRelease straps) := by
  intro _ p hp
  cases hp

theorem Laws.PayloadFits.timeUnitTick :
    Laws.PayloadFits.Statement .timeUnitTick := by
  intro _ p hp
  cases hp

theorem Laws.PayloadFits.startNoFreeBuffer (link : Link) :
    Laws.PayloadFits.Statement (.startNoFreeBuffer link) := by
  intro _ p hp
  cases hp

end Sys2Proof
end

