-- ==== Sys2Proof/Laws/PutLink.lean ====
section
/-! SUPPORT. The operations that read no link unit, and what a link unit's replacement before them comes to: the same
replacement after them. With these a request's meaning on the state that its frame's reception leaves is its meaning on
the state before, followed by the reply. -/

namespace Sys2Proof.Machine

variable (s : State) (k : Link) (u : LinkUnit)

/-! ### Services -/

@[simp] theorem State.putLink_putVote (p : Fin 64) (v : VotePart) :
    (s.putLink k u).putVote p v = (s.putVote p v).putLink k u := rfl
@[simp] theorem State.putLink_putSlots (p : Fin 64) (x : List Slot) :
    (s.putLink k u).putSlots p x = (s.putSlots p x).putLink k u := rfl
@[simp] theorem State.putLink_putLane (l : Lane) (e : LaneEntry) :
    (s.putLink k u).putLane l e = (s.putLane l e).putLink k u := rfl
@[simp] theorem State.putLink_notify (r : LaneSet) (n : Notice) :
    (s.putLink k u).notify r n = (s.notify r n).putLink k u := rfl
@[simp] theorem State.putLink_emptyNotices (l : Lane) :
    (s.putLink k u).emptyNotices l = (s.emptyNotices l).putLink k u := rfl
@[simp] theorem State.putLink_noticeTo (l : Lane) (n : Notice) :
    (s.putLink k u).noticeTo l n = (s.noticeTo l n).putLink k u := rfl
@[simp] theorem State.putLink_void (l : Lane) : (s.putLink k u).void l = (s.void l).putLink k u := rfl
@[simp] theorem State.putLink_handOff (p : Fin 64) (v : Value) :
    (s.putLink k u).handOff p v = (s.handOff p v).putLink k u := rfl
@[simp] theorem State.putLink_handSafeValues :
    (s.putLink k u).handSafeValues = s.handSafeValues.putLink k u := by
  simp only [State.handSafeValues, State.putLink_cu, State.putLink_du]
  generalize s.du.handSafeValues s.cu.active = d
  rfl
@[simp] theorem State.putLink_setSafe (b : Bool) : (s.putLink k u).setSafe b = (s.setSafe b).putLink k u := rfl
@[simp] theorem State.putLink_removeVoter (l : Lane) :
    (s.putLink k u).removeVoter l = (s.removeVoter l).putLink k u := rfl
@[simp] theorem State.putLink_shouldBeSafe : (s.putLink k u).shouldBeSafe = s.shouldBeSafe := rfl

/-- What `State.submit` does, over the journal that took the record. -/
theorem State.submit_over (sub : Option Lane) (b : RecordBody) (j : Journal)
    (hj : s.ij.submit s.global.triggers s.global.postCount s.time sub b = j) :
    s.submit sub b = if s.ij.state ≠ .frozen ∧ j.state = .frozen then
      (match j.frozenNotice with
        | none => { s with ij := j }
        | some n => ({ s with ij := j } : State).notify s.joined n)
      else { s with ij := j } := by
  subst hj; rfl

@[simp] theorem State.putLink_submit (sub : Option Lane) (b : RecordBody) :
    (s.putLink k u).submit sub b = (s.submit sub b).putLink k u := by
  generalize hj : s.ij.submit s.global.triggers s.global.postCount s.time sub b = j
  rw [State.submit_over (s.putLink k u) sub b j hj, State.submit_over s sub b j hj, State.putLink_ij]
  by_cases h : s.ij.state ≠ .frozen ∧ j.state = .frozen
  · rw [if_pos h, if_pos h]
    cases j.frozenNotice <;> rfl
  · rw [if_neg h, if_neg h]
    rfl

/-! ### Safe Control, the Authority Unit and the Lane Monitor -/

@[simp] theorem State.putLink_reportSafe (d : SafeDirection) (sub : Option Lane) :
    (s.putLink k u).reportSafe d sub = (s.reportSafe d sub).putLink k u := by
  simp [State.reportSafe]

@[simp] theorem State.putLink_reevaluate (sub : Option Lane) :
    (s.putLink k u).reevaluate sub = (s.reevaluate sub).putLink k u := by
  simp only [State.reevaluate, State.enterSafe, State.exitSafe, State.putLink_shouldBeSafe, State.putLink_sc,
    State.putLink_setSafe, State.putLink_handSafeValues, State.putLink_reportSafe]
  split <;> split <;> rfl

@[simp] theorem State.putLink_changeHolder (h : Option Lane) (c : List Lane) (cause : AuthCause) (l : Lane) :
    (s.putLink k u).changeHolder h c cause l = (s.changeHolder h c cause l).putLink k u := by
  have e : ∀ a : AuthorityUnit, ({ s.putLink k u with au := a } : State) = ({ s with au := a } : State).putLink k u :=
    fun _ => rfl
  simp only [State.changeHolder, State.putLink_au, State.putLink_joined, e, State.putLink_notify,
    State.putLink_submit]

/-- What `State.succeed` does, over the unit without the lane's claim and the best-ranked lane it may choose. -/
theorem State.succeed_over (l : Lane) (a : AuthorityUnit) (best : Option Lane) : s.au.dropClaim l = a →
    (if s.global.autoSuccession then bestRanked s.global.ranks s.members else none) = best →
    s.succeed l = if a.holder = some l then
      (match a.claims with
        | h :: rest => ({ s with au := a } : State).changeHolder (some h) rest .succeededQueue l
        | [] =>
          match best with
          | some m => ({ s with au := a } : State).changeHolder (some m) [] .succeededRank l
          | none => ({ s with au := a } : State).changeHolder none [] .lost l)
      else { s with au := a } := by
  rintro rfl rfl; rfl

@[simp] theorem State.putLink_succeed (l : Lane) : (s.putLink k u).succeed l = (s.succeed l).putLink k u := by
  generalize ha : s.au.dropClaim l = a
  generalize hb : (if s.global.autoSuccession then bestRanked s.global.ranks s.members else none) = best
  have h : ({ s.putLink k u with au := a } : State) = ({ s with au := a } : State).putLink k u := rfl
  rw [State.succeed_over (s.putLink k u) l a best ha hb, State.succeed_over s l a best ha hb, h]
  simp only [State.putLink_changeHolder]
  by_cases c : a.holder = some l
  · rw [if_pos c, if_pos c]
    cases a.claims with
    | nil => cases best <;> rfl
    | cons _ _ => rfl
  · rw [if_neg c, if_neg c]

@[simp] theorem State.putLink_laneNotices (l : Lane) (old new : LaneState) (cause : LaneCause) :
    (s.putLink k u).laneNotices l old new cause = (s.laneNotices l old new cause).putLink k u := by
  cases new <;> rfl

@[simp] theorem State.putLink_changeLane (l : Lane) (new : LaneState) (cause : LaneCause) :
    (s.putLink k u).changeLane l new cause = (s.changeLane l new cause).putLink k u := by
  cases b : ((s.lane l).state.joined && !new.joined) <;>
    cases c : ((s.lane l).state == .member && new != .member) <;>
    simp only [State.changeLane, State.putLink_lane, State.putLink_time, State.putLink_global, State.putLink_putLane,
      b, c, Bool.false_eq_true, if_true, if_false, State.putLink_void, State.putLink_laneNotices,
      State.putLink_submit, State.putLink_succeed, State.putLink_removeVoter, State.putLink_reevaluate]

@[simp] theorem State.putLink_demoteProbation (l : Lane) :
    (s.putLink k u).demoteProbation l = (s.demoteProbation l).putLink k u := by
  simp only [State.demoteProbation, State.putLink_laneState, State.putLink_changeLane]
  split <;> rfl

@[simp] theorem State.putLink_moveLane (l : Lane) (new : LaneState) (cause : LaneCause) :
    (s.putLink k u).moveLane l new cause = (s.moveLane l new cause).putLink k u := by
  simp only [State.moveLane, State.putLink_laneState, State.putLink_memberCount, State.putLink_changeLane,
    State.putLink_demoteProbation]
  split <;> rfl

@[simp] theorem State.putLink_depart (l : Lane) (cause : LaneCause) :
    (s.putLink k u).depart l cause = (s.depart l cause).putLink k u := by
  simp only [State.depart, State.putLink_laneState, State.putLink_moveLane]
  split <;> rfl

@[simp] theorem State.putLink_strike (l : Lane) (cause : LaneCause) :
    (s.putLink k u).strike l cause = (s.strike l cause).putLink k u := by
  simp only [State.strike, State.putLink_lane, State.putLink_global, State.putLink_putLane, State.putLink_moveLane]
  split <;> rfl

@[simp] theorem State.putLink_cleanVote (l : Lane) :
    (s.putLink k u).cleanVote l = (s.cleanVote l).putLink k u := by
  by_cases c : (s.lane l).cleanRun + 1 = s.global.decayInterval <;>
    simp only [State.cleanVote, State.putLink_lane, State.putLink_global, State.putLink_putLane, c, if_true, if_false]

@[simp] theorem State.putLink_creditLane (l : Lane) :
    (s.putLink k u).creditLane l = (s.creditLane l).putLink k u := by
  by_cases c : (s.lane l).credit + 1 = s.global.probationLength <;>
    simp only [State.creditLane, State.putLink_lane, State.putLink_global, State.putLink_putLane,
      State.putLink_moveLane, c, if_true, if_false]

@[simp] theorem State.putLink_takeVerdict (l : Lane) (v : Option Verdict) :
    (s.putLink k u).takeVerdict l v = (s.takeVerdict l v).putLink k u := by
  simp only [State.takeVerdict, State.putLink_laneState, State.putLink_strike, State.putLink_cleanVote,
    State.putLink_creditLane, State.putLink_moveLane]
  split <;> rfl

@[simp] theorem State.putLink_takeVerdicts (v : PerLane (Option Verdict)) :
    (s.putLink k u).takeVerdicts v = (s.takeVerdicts v).putLink k u := by
  simp only [State.takeVerdicts, State.putLink_takeVerdict]

/-! ### Closings -/

@[simp] theorem State.putLink_handOptional (p : Fin 64) (v : Option Value) :
    (s.putLink k u).handOptional p v = (s.handOptional p v).putLink k u := by
  cases v <;> rfl

@[simp] theorem State.putLink_submitOutcome (d : Decision) (r : OutcomeReport) :
    (s.putLink k u).submitOutcome d r = (s.submitOutcome d r).putLink k u := by
  simp only [State.submitOutcome, State.putLink_submit]
  split <;> rfl

@[simp] theorem State.putLink_closingInput (p : Fin 64) (x : Slot) (cause : CloseCause) :
    (s.putLink k u).closingInput p x cause = s.closingInput p x cause := rfl

@[simp] theorem State.putLink_closeSlot (p : Fin 64) (x : Slot) (rest : List Slot) (cause : CloseCause) :
    (s.putLink k u).closeSlot p x rest cause = (s.closeSlot p x rest cause).putLink k u := by
  simp only [State.closeSlot, State.putLink_closingInput, State.putLink_voteOf, State.putLink_time,
    State.putLink_putVote, State.putLink_handOptional, State.putLink_cfgOf, State.putLink_notify,
    State.putLink_submitOutcome, State.putLink_takeVerdicts]

@[simp] theorem State.putLink_closeChain (n : Nat) (p : Fin 64) (cause : CloseCause) :
    (s.putLink k u).closeChain n p cause = (s.closeChain n p cause).putLink k u := by
  induction n generalizing s cause with
  | zero => rfl
  | succ n ih =>
    simp only [State.closeChain, State.putLink_voteOf, State.putLink_closeSlot]
    split
    · rfl
    · rename_i x rest _
      generalize s.closeSlot p x rest cause = v
      change (match (v.voteOf p).slots.head?.bind Slot.dueCause with
        | some c => (v.putLink k u).closeChain n p c
        | none => v.putLink k u) = _
      cases (v.voteOf p).slots.head?.bind Slot.dueCause with
      | none => rfl
      | some c => exact ih v c

@[simp] theorem State.putLink_closePoint (p : Fin 64) (cause : CloseCause) :
    (s.putLink k u).closePoint p cause = (s.closePoint p cause).putLink k u := by
  simp only [State.closePoint, State.putLink_voteOf, State.putLink_closeChain]

@[simp] theorem State.putLink_settleFirst (p : Fin 64) (x : Slot) (rest : List Slot) :
    (s.putLink k u).settleFirst p x rest = (s.settleFirst p x rest).putLink k u := by
  simp only [State.settleFirst, State.putLink_putSlots, State.putLink_closePoint]
  split <;> rfl

/-! ### The entries of a PROPOSE -/

/-- An entry's result does not depend on a link unit, and its effect leaves the unit as it was. -/
theorem State.putLink_proposeAt (p : Fin 64) (l : Lane) (e : ProposeEntry) :
    (s.putLink k u).proposeAt p l e = ((s.proposeAt p l e).1, (s.proposeAt p l e).2.putLink k u) := by
  simp only [State.proposeAt, State.putLink_voteOf, State.putLink_time, State.putLink_cfgOf, State.putLink_joined,
    State.putLink_settleFirst, State.putLink_putSlots]
  repeat' split
  all_goals rfl

theorem State.putLink_proposeEntry (l : Lane) (e : ProposeEntry) :
    (s.putLink k u).proposeEntry l e = ((s.proposeEntry l e).1, (s.proposeEntry l e).2.putLink k u) := by
  simp only [State.proposeEntry, State.putLink_laneState, State.putLink_cfgOf, State.putLink_proposeAt]
  repeat' split
  all_goals rfl

theorem State.putLink_proposeEntries (l : Lane) (es : List ProposeEntry) :
    (s.putLink k u).proposeEntries l es = ((s.proposeEntries l es).1, (s.proposeEntries l es).2.putLink k u) := by
  induction es generalizing s with
  | nil => rfl
  | cons e rest ih => simp only [State.proposeEntries, State.putLink_proposeEntry, ih]

end Sys2Proof.Machine
end

