-- ==== Sys2Proof/Laws/Records.lean ====
section
/-! SUPPORT. What a run of records makes of the Incident Journal: numbered on at the end of the ring while the journal
is not FROZEN, all dropped where it was FROZEN before. -/

namespace Sys2Proof.Machine

/-- A journal with these records submitted in order. -/
def Journal.submitAll (m : TriggerMask) (k : Nat) (now : Time) (made : List (Option Lane × RecordBody)) (j : Journal) :
    Journal :=
  made.foldl (fun j r => j.submit m k now r.1 r.2) j

/-- The journal after a run of records depends on the image, the time and the journal alone. -/
theorem State.foldl_submit_ij (made : List (Option Lane × RecordBody)) (s : State) :
    (made.foldl (fun (u : State) r => u.submit r.1 r.2) s).ij =
      s.ij.submitAll s.global.triggers s.global.postCount s.time made := by
  induction made generalizing s with
  | nil => rfl
  | cons r rest ih =>
    rw [List.foldl_cons, ih]
    simp [Journal.submitAll]

/-- A FROZEN journal stays so and counts a record. -/
theorem Journal.submit_counts {j : Journal} (m : TriggerMask) (k : Nat) (now : Time) (r : Option Lane × RecordBody)
    (h : j.state = .frozen) : j.submit m k now r.1 r.2 = { j with dropped := min 65535 (j.dropped + 1) } := by
  rw [Journal.submit_of_frozen m k now r.1 r.2 h, satInc]
  congr 1
  split <;> omega

/-- A FROZEN journal stays so and counts every record of a run. -/
theorem Journal.submitAll_counts (m : TriggerMask) (k : Nat) (now : Time) (r : Option Lane × RecordBody)
    (rest : List (Option Lane × RecordBody)) (j : Journal) (h : j.state = .frozen) :
    j.submitAll m k now (r :: rest) = { j with dropped := min 65535 (j.dropped + (rest.length + 1)) } := by
  induction rest generalizing r j with
  | nil => exact Journal.submit_counts m k now r h
  | cons q rest ih =>
    change Journal.submitAll m k now (q :: rest) (j.submit m k now r.1 r.2) = _
    rw [Journal.submit_counts m k now r h, ih q { j with dropped := min 65535 (j.dropped + 1) } h]
    congr 1
    simp only [List.length_cons]
    omega

/-- Where the journal is not FROZEN after a run of at most 256 records, they are its last ones, numbered on. -/
theorem Journal.submitAll_stores (m : TriggerMask) (k : Nat) (now : Time) (made : List (Option Lane × RecordBody))
    (j : Journal) (hl : made.length ≤ 256) (h : (j.submitAll m k now made).state ≠ .frozen) :
    made.mapIdx (fun i r => (⟨j.counter + BitVec.ofNat 32 i, now, r.1, r.2⟩ : Record)) <:+
        (j.submitAll m k now made).ring ∧
      (j.submitAll m k now made).counter = j.counter + BitVec.ofNat 32 made.length := by
  induction made using List.reverseRecOn with
  | nil => exact ⟨by simp, by simp [Journal.submitAll]⟩
  | append_singleton made r ih =>
    have e : j.submitAll m k now (made ++ [r]) = (j.submitAll m k now made).submit m k now r.1 r.2 := by
      simp [Journal.submitAll]
    rw [List.length_append, List.length_singleton] at hl
    rw [e] at h ⊢
    have hf : (j.submitAll m k now made).state ≠ .frozen := fun hf => h (by
      rw [Journal.submit_of_frozen m k now r.1 r.2 hf]
      exact hf)
    obtain ⟨old, counted⟩ := ih (by omega) hf
    obtain ⟨ring, counter, -⟩ := Journal.submit_stores m k now r.1 r.2 hf
    generalize j.submitAll m k now made = v at *
    rw [ring, counter, counted]
    refine ⟨?_, ?_⟩
    · rw [List.mapIdx_append]
      simp only [Journal.store, counted, List.mapIdx_cons, List.mapIdx_nil, Nat.zero_add]
      obtain ⟨pre, hp⟩ := old
      have length := congrArg List.length hp
      simp only [List.length_append, List.length_mapIdx] at length
      split
      · exact ⟨pre, by rw [← List.append_assoc, hp]⟩
      · rename_i full
        simp only [Config.ringCapacity] at full
        cases pre with
        | nil =>
          simp only [List.length_nil] at length
          omega
        | cons a pre => exact ⟨pre, by rw [← List.append_assoc, ← hp]; rfl⟩
    · apply BitVec.eq_of_toNat_eq
      simp
      omega

/-- HasRecorded of a run of records follows from what it makes of the journal. -/
theorem State.hasRecorded (s t : State) (r : Option Lane × RecordBody) (rest : List (Option Lane × RecordBody))
    (hl : rest.length < 256)
    (h : t.ij = ((r :: rest).foldl (fun (u : State) r => u.submit r.1 r.2) { s with cu := t.cu }).ij) :
    s.HasRecorded (r :: rest) t := by
  refine ⟨h, ?_, ?_⟩ <;> rw [h, State.foldl_submit_ij] <;> intro hf
  · exact Journal.submitAll_stores _ _ _ _ _ (by simpa using hl) hf
  · exact Journal.submitAll_counts _ _ _ _ _ _ hf

end Sys2Proof.Machine
end

