-- ==== Sys2Proof/Tests/Slice0.lean ====
section
/-! SUPPORT. Tests: ill-formed terms refused, the manual's check values, one step of each command against the manual's
own words, and for every obligation with hypotheses a state and operands that meet them. -/

namespace Sys2Proof.Tests

open Sys2Proof Sys2Proof.Machine

/- One theorem at a time: a theorem that the kernel evaluates waits for all before it, and many that wait together each
hold a thread. -/
set_option Elab.async false

/-! ### WellFormed: an ill-formed term for each check -/

theorem test_wellFormed_payload_128 : (Instr.propose .ml 0 (List.replicate 128 0)).wellFormed = true := by decide +kernel
theorem test_wellFormed_payload_129 : (Instr.propose .ml 0 (List.replicate 129 0)).wellFormed = false := by decide +kernel
theorem test_wellFormed_restart_payload : (Instr.restart .a 0 (List.replicate 129 0)).wellFormed = false := by decide +kernel
theorem test_wellFormed_badKind_of_join : (Instr.badKind .ml 0x20 0 []).wellFormed = false := by decide +kernel
theorem test_wellFormed_badKind_payload : (Instr.badKind .ml 0x00 0 (List.replicate 129 0)).wellFormed = false := by
  decide +kernel
theorem test_wellFormed_echo_length : (Instr.echo 0 [1, 0]).wellFormed = false := by decide +kernel
theorem test_wellFormed_echo_status : (Instr.echo 0 [1, 2, 0, 0]).wellFormed = false := by decide +kernel
theorem test_wellFormed_discarded_good_frame :
    (Instr.discardedFrame .la (frameBytes 0x22 0 [0, 0])).wellFormed = false := by decide +kernel
theorem test_wellFormed_discarded_134 :
    (Instr.discardedFrame .la (List.replicate 134 0)).wellFormed = false := by decide +kernel

/-! ### The check values of R172 and R180, and the lengths of R188 -/

theorem test_crc32_of_123456789 : crc32 [0x31, 0x32, 0x33, 0x34, 0x35, 0x36, 0x37, 0x38, 0x39] = 0xCBF43926 := by
  decide +kernel
theorem test_crc16_of_123456789 : crc16 [0x31, 0x32, 0x33, 0x34, 0x35, 0x36, 0x37, 0x38, 0x39] = 0x29B1 := by
  decide +kernel
theorem test_image_is_1039_bytes : (defaultImage ⟨true, true, true⟩).bytes.length = 1039 := by decide +kernel
/-- Table 11.7: remaining hold (2), last cause (1); EXCLUDED is the tenth of Table 8.2, BEAT_LOST the ninth of Table 4.3. -/
theorem test_reply_bytes : Reply.payload ⟨0x20, 1, .excluded, .excluded 258 .beatLost⟩ = [0x20, 9, 1, 2, 8] := by
  decide +kernel
/-- Table 11.8: the lost count, then old and new holder, epoch, cause, queue length, queued lanes; the tag is the notice
sequence and the length 9. -/
theorem test_notice_bytes : (TxFrame.notice 7 3 (.authority (some .a) none 258 .lost [.c])).bytes.take 12 =
    [0x91, 7, 9, 3, 0, 0xFF, 1, 2, 4, 1, 2, 0xFF] := by decide +kernel
/-- Table 11.6: point (1), value (2), the value -2 in two's complement. -/
theorem test_apply_bytes : (TxFrame.apply 63 8 (-2)).bytes.take 6 = [0xA0, 8, 3, 63, 0xFF, 0xFE] := by decide +kernel
/-- R187, Table 11.9: sequence, time, kind, subject, length, then state, trigger sequence and dropped count before. -/
theorem test_record_bytes : Record.bytes ⟨258, 5, some .b, .rearm .frozen (some 7) 65535⟩ =
    [0, 0, 1, 2, 0, 0, 0, 5, 9, 1, 8, 2, 1, 0, 0, 0, 7, 0xFF, 0xFF] := by decide +kernel
/-- Table 11.10: each field at its offset. -/
theorem test_point_record_bytes : pointBytes ⟨true, .level, .authority, ⟨true, false, true⟩, 2, 258, -1, 515, 3, 20, .safe,
    ⟨false, true, true⟩⟩ = [1, 1, 1, 5, 2, 1, 2, 0xFF, 0xFF, 2, 3, 0, 3, 20, 1, 6] := by decide +kernel
theorem test_table_word_spells_nothing : decodeTableWord 8 0 = none := rfl
theorem test_withFetchWord : State.reset.withFetchWord 8 0 = State.reset := rfl

/-! ### States for the tests -/

/-- All three lanes. -/
def all3 : LaneSet := ⟨true, true, true⟩

/-- A link unit in RUN. -/
def upLink : LinkUnit :=
  { stoppedLink with state := .run, enabled := true, credit := 2, peerCredit := 4, silence := some 0 }

/-- A link unit in READY. -/
def readyLink : LinkUnit :=
  { stoppedLink with state := .ready, enabled := true, peerCredit := 4, silence := some 0, handshake := some 0 }

/-- A LEVEL point. -/
def levelPoint : PointCfg :=
  { defaultPoint all3 with
    enabled := true, kind := .level, quorum := 2, tolerance := 10, max := 100, notify := all3 }

/-- The default image with point 0 in use. -/
def testImage : Image := ⟨defaultGlobal all3, PerPoint.put (Vector.replicate 64 (defaultPoint all3)) 0 levelPoint⟩

/-- An entry of a lane PROBATION or MEMBER whose beat timer has just run out. -/
def joinedEntry (st : LaneState) : LaneEntry := { powerOnLane true with state := st, beatDeadline := some 0 }

/-- An entry of an EXCLUDED lane with this hold deadline. -/
def excludedEntry (d : Time) : LaneEntry := { powerOnLane true with state := .excluded, holdDeadline := some d }

/-- The three lanes MEMBER, every link in RUN, OPERATE mode, no authority. -/
def base : State where
  resetN := .high
  straps := all3
  time := 0
  cu := ⟨.operate, testImage, testImage, 7, true⟩
  ve := Vector.replicate 64 clearedVote
  du := powerOnDrive
  lm := ⟨joinedEntry .member, joinedEntry .member, joinedEntry .member⟩
  au := ⟨none, 4, []⟩
  sc := ⟨false, .high, none⟩
  nu := ⟨clearedBox, clearedBox, clearedBox⟩
  ij := powerOnJournal
  lu := ⟨upLink, upLink, upLink, upLink, upLink⟩
  pending := []

/-- `base` with the lanes in other states. -/
def lanes (a b c : LaneState) : State := { base with lm := ⟨joinedEntry a, joinedEntry b, joinedEntry c⟩ }

/-- No lane joined, in a mode, with the safe condition holding. -/
def idle (m : Mode) : State :=
  { base with
    cu := { base.cu with mode := m }, lm := ⟨powerOnLane true, powerOnLane true, powerOnLane true⟩
    sc := powerOnSafe }

/-- `base` with the slots of point 0. -/
def slots (n : Serial) (x : List Slot) : State := base.putVote 0 ⟨n, x, none⟩

/-- A slot of this serial, in this state, with these proposals, whose window has just run out. -/
def slot (n : Serial) (st : SlotState) (ps : List Proposal) : Slot := ⟨n, all3, ps, 0, st⟩

/-- `base` with point 0's drive status. -/
def drive (st : DriveStatus) (budget : Nat) : State :=
  { base with du := { base.du with parts := base.du.parts.put 0 ⟨5, some 5, st, budget, 0⟩ } }

/-- `base` with point 0 in flight with tag 9, its echo deadline at `d`. -/
def flying (budget : Nat) (d : Time) : State :=
  { base with du :=
    { parts := base.du.parts.put 0 ⟨5, none, .inFlight, budget, 9⟩, queue := [], echoes := [⟨0, 9, 5, d⟩], tagCounter := 9 } }

/-- `base` with one link unit replaced. -/
def withLink (l : Link) (u : LinkUnit) : State := base.putLink l u

/-- The state after a command. -/
def run (c : Instr) (s : State) : State :=
  match exec c s with
  | .next t => t
  | .fault _ => s
  | .refused _ => s

/-- The answers of a state that takes requests at once. -/
theorem takes (s : State) (link : ReqLink) (hr : s.resetN = .high) (hl : s.lu = base.lu) : s.TakesAtOnce link := by
  unfold State.TakesAtOnce State.link
  rw [hl]
  rcases link with l | _
  · cases l <;> exact ⟨hr, rfl, rfl, by decide⟩
  · exact ⟨hr, rfl, rfl, by decide⟩

/-! ### One step of each command -/

/-- R22, R23: serial N with no slot opens one. -/
theorem test_propose_accepted : (run (.propose (.lane .a) 9 [1, 0, 0, 0, 0, 5]) base).lu.la.replies =
    [⟨0x10, 9, .ok, .entries [.accepted]⟩] := by decide +kernel
/-- R70: with no lane MEMBER the JOIN founds. -/
theorem test_join_founds : ((run (.join (.lane .b) 1 [0, 0, 0, 7]) (idle .operate)).lane .b).lastCause = .founded := by
  decide +kernel
/-- R84. -/
theorem test_leave_left : ((run (.leave (.lane .c) 1 []) base).lane .c).lastCause = .left := by decide +kernel
/-- R79: a DEGRADED beat excludes a MEMBER lane. -/
theorem test_beat_degraded : (run (.beat (.lane .a) 1 [3, 1]) base).laneState .a = .excluded := by decide +kernel
/-- R93: a grant raises the epoch. -/
theorem test_claim_granted : (run (.claim (.lane .a) 1 []) base).au = ⟨some .a, 5, []⟩ := by decide +kernel
/-- R97: the head of the queue gains authority. -/
theorem test_yield_to_head : (run (.yield (.lane .a) 1 [0, 4]) { base with au := ⟨some .a, 4, [.c, .b]⟩ }).au =
    ⟨some .c, 5, [.b]⟩ := by decide +kernel
/-- R98. -/
theorem test_withdraw : (run (.withdraw (.lane .c) 1 []) { base with au := ⟨some .a, 4, [.c, .b]⟩ }).au =
    ⟨some .a, 4, [.b]⟩ := by decide +kernel
/-- R110: the first of two votes, 500 time units left. -/
theorem test_restart_pending : (run (.restart .a 1 []) base).lu.la.replies =
    [⟨0x40, 1, .pending, .votes 1 2 500⟩] := by decide +kernel
/-- R89, R113. -/
theorem test_maintenance_restart : ((run (.maintenanceRestart 1 []) base).lane .b).lastCause = .restart := by
  decide +kernel
/-- R15: a point above 63. -/
theorem test_pointRead_64 : (run (.pointRead (.lane .a) 1 [64]) base).lu.la.replies =
    [⟨0x50, 1, .badIndex, .nothing⟩] := by decide +kernel
/-- R133: the point is re-queued. -/
theorem test_pointClear : ((run (.pointClear .ml 1 [0, 0, 0]) (drive .faulted 0)).driveOf 0).status = .queued := by
  decide +kernel
/-- Table 9.4, check 2. -/
theorem test_journalRead_notFrozen : (run (.journalRead (.lane .a) 1 [0, 0, 0, 0]) base).lu.la.replies =
    [⟨0x60, 1, .notFrozen, .nothing⟩] := by decide +kernel
/-- R159: the REARM record takes the counter's sequence. -/
theorem test_journalRearm : (run (.journalRearm .ml 1 [0, 0])
    { base with ij := ⟨[], 1262, .frozen, some ⟨1258, .lane, some .c⟩, 0, 4⟩ }).lu.ml.replies =
    [⟨0x61, 1, .ok, .sequence 1262⟩] := by decide +kernel
/-- Table 10.5, time 100: CFG_OPEN with MEMBER lanes is BUSY. -/
theorem test_cfgOpen_busy : (run (.cfgOpen .ml 1 []) base).lu.ml.replies = [⟨0x70, 1, .busy, .nothing⟩] := by
  decide +kernel
/-- Table 10.5, time 140: a window of 0, the field at offset 13. -/
theorem test_cfgWrite_window : (run (.cfgWrite .ml 1 (1 :: 6 :: pointBytes { levelPoint with window := 0 }))
    (idle .config)).lu.ml.replies = [⟨0x71, 1, .outOfRange, .fieldCode 13⟩] := by decide +kernel
/-- R168: a point index above 63. -/
theorem test_cfgRead_64 : (run (.cfgRead .ml 1 [1, 1, 64]) base).lu.ml.replies = [⟨0x72, 1, .badIndex, .nothing⟩] := by
  decide +kernel
/-- Table 10.5, time 160: lane C unfitted, still in an electorate. -/
theorem test_cfgCommit_unfitted : (run (.cfgCommit .ml 1 []) ((idle .config).putStaging
    ⟨{ defaultGlobal all3 with fitted := ⟨true, true, false⟩ }, testImage.points⟩)).lu.ml.replies =
    [⟨0x73, 1, .invalidConfig, .invalid .electorateUnfitted (some 0)⟩] := by decide +kernel
/-- R171: nothing committed since power-on. -/
theorem test_cfgAbort_noActive : (run (.cfgAbort .ml 1 [])
    { idle .config with cu := { (idle .config).cu with committed := false } }).lu.ml.replies =
    [⟨0x74, 1, .noActive, .nothing⟩] := by decide +kernel
/-- R173: the counts are cleared. -/
theorem test_status_clears : (run (.status .ml 1 [1]) (withLink .la { upLink with discarded := 255 })).lu.la.discarded
    = 0 := by decide +kernel
/-- R138: H'00 is no kind. -/
theorem test_badKind : (run (.badKind .ml 0 1 []) base).lu.ml.replies = [⟨0, 1, .badKind, .nothing⟩] := by
  decide +kernel
/-- R125: the target is confirmed. -/
theorem test_echo_confirms : (run (.echo 9 [0, 0, 0, 5]) (flying 1 50)).driveOf 0 = ⟨5, some 5, .idle, 1, 9⟩ := by
  decide +kernel
/-- R122: the tag counter plus 1. -/
theorem test_dispatch : ((run .dispatch { drive .queued 1 with
    du := { (drive .queued 1).du with queue := [0], tagCounter := 255 } }).driveOf 0).lastTag = 0 := by decide +kernel
/-- R127: one retry fewer. -/
theorem test_echoDeadline_retries : (run (.echoDeadline 0 9) (flying 1 0)).driveOf 0 = ⟨5, none, .queued, 0, 9⟩ := by
  decide +kernel
/-- R30, R48: one proposal of three, the window run out: N advances and the missed lanes are struck. -/
theorem test_windowExpiry : ((run (.windowExpiry 0 7) (slots 7 [slot 7 .opened [⟨.a, 3⟩]])).lane .b).strikes = 1 := by
  decide +kernel
/-- R35: a slot that a departure has completed closes. -/
theorem test_departureClosing : ((run (.departureClosing 0)
    (slots 7 [{ slot 7 .opened [⟨.a, 3⟩, ⟨.b, 3⟩] with roll := ⟨true, true, false⟩ }])).voteOf 0).next = 8 := by
  decide +kernel
/-- R82: a MEMBER lane whose beat timer runs out is EXCLUDED. -/
theorem test_beatTimeout : ((run (.beatTimeout .a) base).lane .a).lastCause = .beatLost := by decide +kernel
/-- R86. -/
theorem test_holdExpiry : ((run (.holdExpiry .a) { base with lm := base.lm.set .a (excludedEntry 0) }).lane .a).lastCause
    = .holdEnded := by decide +kernel
/-- R112: the voters are told. -/
theorem test_collectionDeadline : ((run .collectionDeadline
    { base with sc := ⟨false, .high, some ⟨⟨true, false, false⟩, 0⟩⟩ }).nu.get .a).queue =
    [.restartExpired ⟨true, false, false⟩ 2] := by decide +kernel
/-- Example 11.6, 1000 µs. -/
theorem test_backoffExpiry : (run (.backoffExpiry .lb) (withLink .lb { stoppedLink with enabled := true, backoff := some 0 })
    ).lu.lb.state = .waking := by decide +kernel
/-- R177. -/
theorem test_handshakeExpiry : (run (.handshakeExpiry .lb) (withLink .lb readyLink)).lu.lb.state = .off := by
  decide +kernel
/-- R85, R178: the silence of a lane's link takes its lane out. -/
theorem test_silenceTimeout : ((run (.silenceTimeout .lb) base).lane .b).lastCause = .linkLost := by decide +kernel
/-- R183: a link error in RUN raises the restart count. -/
theorem test_codeError : (run (.codeError .ml) base).lu.ml.restarts = 1 := by decide +kernel
/-- R178: the LINK record's cause. -/
theorem test_framingError : (run (.framingError .ml .frameTooLong) base).ij.ring.map Record.body =
    [.link .ml .run .off .framing] := by decide +kernel
/-- Example 11.6, 1100 µs. -/
theorem test_grant_ready : (run (.grant .lb) (withLink .lb readyLink)).lu.lb.credit = 1 := by decide +kernel
/-- Example 11.6, 1040 µs: the handshake runs to 1 ms later. -/
theorem test_idle_waking : (run (.idleReceived .lb) (withLink .lb { stoppedLink with state := .waking, enabled := true })
    ).lu.lb.handshake = some 10 := by decide +kernel
/-- R181: no count. -/
theorem test_abandon : (run (.abandon .la) base).lu.la.discarded = 0 := by decide +kernel
/-- R180: two data characters are too few. -/
theorem test_discardedFrame : (run (.discardedFrame .la [1, 2]) base).lu.la.discarded = 1 := by decide +kernel
/-- R176: the backoff timer starts. -/
theorem test_linkEnable : (run (.linkEnable .a) (withLink .la stoppedLink)).lu.la.backoff = some 10 := by decide +kernel
/-- R176: a lane unfitted. -/
theorem test_linkDisable : (run (.linkDisable .c) { idle .operate with cu := { base.cu with
    active := ⟨{ defaultGlobal all3 with fitted := ⟨true, true, false⟩ }, testImage.points⟩ } }).lu.lc.state = .off := by
  decide +kernel
/-- R147: starting a frame takes one credit. -/
theorem test_sendReply : (run (.sendReply .ml) (withLink .ml { upLink with replies := [⟨0x78, 1, .badFrame, .nothing⟩] })
    ).lu.ml.credit = 1 := by decide +kernel
/-- R146: the notice takes the lane's sequence and lost count. -/
theorem test_sendNotice : (run (.sendNotice .a) { base with nu := ⟨⟨[.safe .exited 2 2], 3, 255⟩, clearedBox, clearedBox⟩ }
    ).lu.la.sending = some (.notice 255 3 (.safe .exited 2 2)) := by decide +kernel
/-- R137: at its END the reply leaves the queue. -/
theorem test_frameSent : (run (.frameSent .ml) (withLink .ml { upLink with
    replies := [⟨0x78, 1, .badFrame, .nothing⟩], sending := some (.reply ⟨0x78, 1, .badFrame, .nothing⟩) })
    ).lu.ml.replies = [] := by decide +kernel
/-- R189. -/
theorem test_resetAssert : (run .resetAssert base).sc.safeN = .low := by decide +kernel
/-- R87, R189: the straps decide which lanes are fitted. -/
theorem test_resetRelease : (run (.resetRelease ⟨true, false, true⟩) (State.held all3 [])).laneState .b = .absent := by
  decide +kernel
/-- R189: arbiter time wraps after 4294967295. -/
theorem test_tick_wraps : (run .timeUnitTick { base with time := 4294967295 }).time = 0 := by decide +kernel
/-- R178: a START with four buffers full. -/
theorem test_startNoFreeBuffer : (run (.startNoFreeBuffer .ml) (withLink .ml { upLink with
    waiting := List.replicate 4 ⟨0x78, 1, [0]⟩, peerCredit := 0 })).lu.ml.state = .off := by decide +kernel

/-! ### States and operands that meet the hypotheses of the obligations -/

theorem test_hyps_StepRunsTheFrontCommand :
    ({ base with pending := [.dispatch, .timeUnitTick] } : State).pending = .dispatch :: [.timeUnitTick] ∧
      base.pending = [] := ⟨rfl, rfl⟩

theorem test_hyps_EveryCommandGoesOn :
    Instr.dispatch ≠ .resetAssert ∧ (∀ f, Instr.dispatch ≠ .resetRelease f) ∧ Instr.dispatch ≠ .timeUnitTick ∧
      base.du.queue = [] ∧ ((withLink .dl readyLink).link .dl).state ≠ .run ∧
      ((withLink .dl { upLink with credit := 0 }).link .dl).credit = 0 ∧
      8 ≤ ({ base with du := { base.du with echoes := List.replicate 8 ⟨0, 0, 0, 0⟩ } } : State).du.echoes.length :=
  ⟨by decide, nofun, by decide, by decide +kernel⟩

theorem test_hyps_ResetPinAndClock :
    base.resetN = .high ∧ (State.held all3 []).resetN = .low ∧ ∀ f, Instr.timeUnitTick ≠ .resetRelease f :=
  ⟨rfl, rfl, nofun⟩

theorem test_hyps_PowerOnPointTable :
    (⟨{ defaultGlobal all3 with fitted := ⟨false, false, false⟩ }, testImage.points⟩ : Image).global.fitted =
      ⟨false, false, false⟩ := rfl

theorem test_hyps_PowerOnLaneTable : State.reset.cu.mode = .config := rfl

/-- The reset state with a tick waiting. -/
def ticking : State := { State.reset with pending := [.timeUnitTick] }

theorem test_step_ticking : step ticking = .next { State.reset with time := 1 } := by
  unfold ticking step exec execTimeUnitTick State.whenPowered
  rfl

theorem test_default_image_in_range : (defaultImage all3).InRange := by
  refine ⟨by unfold GlobalCfg.InRange; decide +kernel, fun p => ?_⟩
  rw [defaultImage, PerPoint.at_replicate]
  unfold PointCfg.InRange
  decide +kernel

theorem test_hyps_StepsKeepTheConfigurationSound : ticking.cu.Sound :=
  ⟨test_default_image_in_range, test_default_image_in_range, rfl, nofun, nofun⟩

theorem test_hyps_StepsKeepTheLinksSound : ticking.LinksSound := by
  have h : ∀ l, (ticking.link l).sending = none := by intro l; cases l <;> rfl
  refine ⟨fun l => ⟨?_, ?_, ?_, ?_, ?_, ?_, ?_, ?_, ?_, ?_, ?_, ?_, fun f e => ?_⟩, ⟨rfl, rfl, fun f e => ?_⟩, fun f e => ?_, fun n f e => ?_⟩
  pick_goal 13
  · cases (h l).symm.trans e
  pick_goal 13
  · cases (h .dl).symm.trans e
  pick_goal 13
  · cases (h .ml).symm.trans e
  pick_goal 13
  · cases (h n.link).symm.trans e
  all_goals cases l <;> decide +kernel

theorem test_hyps_StepsKeepTheVotesSound : ticking.VotesSound := by
  have h : ∀ p, ticking.voteOf p = clearedVote := fun p => PerPoint.at_replicate _ p
  intro p
  rw [h]
  exact ⟨trivial, nofun, fun _ => rfl⟩

theorem test_hyps_StepsKeepTheLanesSound : ticking.LanesSound := by
  refine ⟨fun l => ?_, fun l => by cases l <;> decide +kernel, fun l => by cases l <;> decide +kernel,
    fun l => by cases l <;> nofun, ?_⟩
  · cases l <;> (unfold LaneEntry.Sound; decide +kernel)
  · intro i hi
    have hi : i = defaultImage all3 := by simpa [ticking, State.reset, State.powerOn, powerOnConfig, all3] using hi
    rw [hi]
    decide +kernel

theorem test_hyps_StepsKeepAuthoritySound : ticking.AuthoritySound := ⟨nofun, by decide, nofun, fun _ => rfl⟩

theorem test_hyps_StepsKeepTheSafeConditionSound : ticking.SafetySound := by
  unfold State.SafetySound
  decide +kernel

theorem test_hyps_StepsKeepTheCollectionSound :
    ({ base with sc := ⟨false, .high, some ⟨⟨true, false, false⟩, 0⟩⟩ } : State).CollectionSound := by
  intro c hc
  cases hc
  exact ⟨rfl, fun l h => by cases l <;> rfl⟩

theorem test_hyps_StepsKeepTheDriveSound : ticking.DriveSound := by
  have h : ∀ p, ticking.driveOf p = ⟨0, none, .idle, 1, 0⟩ := fun p => PerPoint.at_replicate _ p
  have e : ∀ p, (ticking.cfgOf p).enabled = false := fun p => by
    show (PerPoint.at (Vector.replicate 64 (defaultPoint all3)) p).enabled = false
    rw [PerPoint.at_replicate]
    rfl
  refine ⟨by decide +kernel, fun p => ?_, by decide +kernel, by decide +kernel, by decide +kernel, fun p => ?_,
    fun p hp => ?_⟩
  · rw [h]
    exact ⟨nofun, nofun⟩
  · rw [h]
    exact ⟨nofun, nofun⟩
  · rw [e] at hp
    cases hp

theorem test_hyps_StepsKeepTheNoticesSound : ticking.NoticesSound := by
  intro l
  cases l <;> decide +kernel

theorem test_hyps_StepsKeepTheJournalSound :
    ({ base with ij := ⟨[⟨7, 0, none, .restart .maintenance all3⟩], 8, .postTrigger, some ⟨7, .restart, none⟩, 255, 0⟩ } :
      State).JournalSound := by
  refine ⟨by decide +kernel, rfl, by decide +kernel, fun t h => ?_, fun _ => ⟨by decide +kernel, fun t h => ?_⟩,
    by decide +kernel, by decide +kernel, by decide +kernel, by decide +kernel⟩ <;>
  (cases h; decide +kernel)

/-- What the entries of a PROPOSE that passes the checks before the slot's ask, met by `slots`. -/
theorem test_hyps_entry (n : Serial) (x : List Slot) :
    (slots n x).TakesAtOnce (.lane .a) ∧ (slots n x).cu.mode = .operate ∧ ((slots n x).laneState .a).joined = true ∧
      ((slots n x).cfgOf 0).enabled = true ∧ ((slots n x).cfgOf 0).electorate.get .a = true ∧
      inDomain ((slots n x).cfgOf 0) 100 = true :=
  ⟨takes _ _ rfl rfl, rfl, rfl, show (base.cfgOf 0).enabled = true ∧ (base.cfgOf 0).electorate.get .a = true ∧
    inDomain (base.cfgOf 0) 100 = true by decide +kernel⟩

theorem test_hyps_ProposalsAreStored :
    (((slots 65535 []).voteOf 0).next = 65535 ∧ ((slots 65535 []).voteOf 0).slots = [] ∧
      (⟨65535, ((slots 65535 []).cfgOf 0).electorate.inter (slots 65535 []).joined, [⟨.a, 100⟩], 20, .opened⟩ :
        Slot).complete = false) ∧
    ((slot 65535 .opened [⟨.b, 3⟩]).roll.get .a = true ∧ (slot 65535 .opened [⟨.b, 3⟩]).hasProposal .a = false ∧
      (slot 65535 .opened [⟨.b, 3⟩, ⟨.a, 100⟩]).complete = false ∧
      ((slots 65535 [slot 65535 .opened [⟨.b, 3⟩]]).voteOf 0).slots = [slot 65535 .opened [⟨.b, 3⟩]]) ∧
    (0 : Serial) = ((slots 65535 [slot 65535 .opened []]).voteOf 0).next + 1 ∧
    ((slots 65535 [slot 65535 .opened [], slot 0 .opened [⟨.b, 3⟩]]).voteOf 0).slots =
      [slot 65535 .opened [], slot 0 .opened [⟨.b, 3⟩]] := by
  decide +kernel

theorem test_hyps_ProposalsAreRefused :
    base.TakesAtOnce (.lane .a) ∧ 64 ≤ (64 : Byte).toNat ∧ (63 : Byte).toNat = (63 : Fin 64).val ∧
    (base.cfgOf 63).enabled = false ∧
    (({ base with cu := { base.cu with active := ⟨testImage.global, testImage.points.put 0
        { levelPoint with electorate := ⟨false, true, true⟩ }⟩ } } : State).cfgOf 0).electorate.get .a = false ∧
    inDomain (base.cfgOf 0) 101 = false ∧ ((2 : Serial) - (base.voteOf 0).next).toNat = 2 ∧
    ((32767 : Serial) - (base.voteOf 0).next).toNat = 32767 ∧ 32768 ≤ ((32768 : Serial) - (base.voteOf 0).next).toNat ∧
    32768 ≤ ((0 : Serial) - ((slots 1 []).voteOf 0).next).toNat ∧
    (((1 : Serial) - (base.voteOf 0).next).toNat = 1 ∧ (base.voteOf 0).slots = []) ∧
    (((slots 0 [slot 0 .opened [⟨.a, 3⟩]]).voteOf 0).slots.head? = some (slot 0 .opened [⟨.a, 3⟩]) ∧
      (slot 0 .opened [⟨.a, 3⟩]).hasProposal .a = true ∧
      ({ slot 0 .opened [] with roll := ⟨false, true, true⟩ } : Slot).roll.get .a = false) ∧
    ((slots 65535 [slot 65535 .opened [], slot 0 (.ripe .expired) [⟨.b, 1⟩]]).voteOf 0).slots[1]? =
      some (slot 0 (.ripe .expired) [⟨.b, 1⟩]) ∧
    (slot 0 (.ripe .expired) [⟨.b, 1⟩]).hasProposal .a = false :=
  ⟨takes _ _ rfl rfl, by decide +kernel⟩

/-- Two strikes of lane A behind it, and point 0's slot waiting for A's proposal: its miscompare excludes it. -/
def lastStrike : State :=
  { slots 7 [slot 7 .opened [⟨.b, 3⟩, ⟨.c, 3⟩]] with lm := base.lm.set .a { joinedEntry .member with strikes := 2 } }

/-- R20: after the first entry the sender is still joined, or no longer. -/
theorem test_hyps_ProposeFrameEntries :
    lastStrike.TakesAtOnce (.lane .a) ∧ lastStrike.cu.mode = .operate ∧ (lastStrike.laneState .a).joined = true ∧
    (List.replicate 15 (⟨0, 0, 5⟩ : ProposeEntry) ≠ [] ∧ (List.replicate 15 (⟨0, 0, 5⟩ : ProposeEntry)).length ≤ 15) ∧
    ((run (.propose (.lane .a) 9 (proposePayload [⟨0, 7, 3⟩])) lastStrike).laneState .a).joined = true ∧
    ((run (.propose (.lane .a) 9 (proposePayload [⟨0, 7, 100⟩])) lastStrike).laneState .a).joined = false :=
  ⟨takes _ _ rfl rfl, rfl, rfl, by decide +kernel⟩

theorem test_hyps_ProposeFrameChecks :
    base.TakesAtOnce .ml ∧ base.TakesAtOnce (.lane .a) ∧ (idle .config).TakesAtOnce (.lane .a) ∧
    (idle .operate).TakesAtOnce (.lane .a) ∧ base.cu.mode = .operate ∧ (idle .config).cu.mode = .config ∧
    ((idle .operate).laneState .a).joined = false ∧ (base.laneState .a).joined = true ∧
    (∃ n rest, (16 :: List.replicate 80 0 : List Byte) = n :: rest ∧ 1 ≤ n.toNat ∧ n.toNat ≤ 16 ∧
      rest.length = 5 * n.toNat) ∧
    ¬ ∃ n rest, (17 :: List.replicate 85 0 : List Byte) = n :: rest ∧ 1 ≤ n.toNat ∧ n.toNat ≤ 16 ∧
      rest.length = 5 * n.toNat :=
  ⟨takes _ _ rfl rfl, takes _ _ rfl rfl, takes _ _ rfl rfl, takes _ _ rfl rfl, rfl, rfl, by decide +kernel,
    by decide +kernel, ⟨16, List.replicate 80 0, rfl, by decide, by decide, by decide +kernel⟩, by
      rintro ⟨n, rest, h, -, h2, -⟩
      cases h
      exact absurd h2 (by decide)⟩

/-- Lane A alone joined: a slot it opens is complete. -/
def alone : State := (lanes .member .down .down).putVote 0 ⟨65535, [], none⟩

/-- The slot for 7 that waits for lane A's proposal, and the one for 8 that lanes B and C filled. -/
def pair : List Slot := [slot 7 .opened [⟨.b, 3⟩, ⟨.c, 3⟩], slot 8 .opened [⟨.b, 4⟩, ⟨.c, 4⟩]]

theorem test_hyps_ClosingOfTheSlotForNext :
    (alone.TakesAtOnce (.lane .a) ∧ (slots 7 pair).TakesAtOnce (.lane .a)) ∧
    (alone.cu.mode = .operate ∧ (alone.laneState .a).joined = true ∧ (alone.cfgOf 0).enabled = true ∧
      (alone.cfgOf 0).electorate.get .a = true ∧ inDomain (alone.cfgOf 0) 100 = true ∧ (alone.voteOf 0).slots = [] ∧
      (⟨65535, (alone.cfgOf 0).electorate.inter alone.joined, [⟨.a, 100⟩], 20, .opened⟩ : Slot).complete = true) ∧
    (((slots 7 pair).voteOf 0).slots = pair ∧ ((slots 7 (pair.take 1)).voteOf 0).slots = pair.take 1 ∧
      (slot 7 .opened [⟨.b, 3⟩, ⟨.c, 3⟩]).serial = ((slots 7 pair).voteOf 0).next ∧
      (slot 7 .opened [⟨.b, 3⟩, ⟨.c, 3⟩]).roll.get .a = true ∧
      (slot 7 .opened [⟨.b, 3⟩, ⟨.c, 3⟩]).hasProposal .a = false ∧
      (slot 7 .opened [⟨.b, 3⟩, ⟨.c, 3⟩, ⟨.a, 100⟩]).complete = true ∧ pair.tail.length ≤ 1) ∧
    timeReached base.time (slot 7 .opened []).deadline = true ∧
    ({ slot 7 .opened [⟨.b, 3⟩] with roll := ⟨false, true, false⟩ } : Slot).complete = true :=
  ⟨⟨takes _ _ rfl rfl, takes _ _ rfl rfl⟩, by decide +kernel⟩

/-- Table 2.6: after a closing for 7 by its window the slot for 8 is RIPE, is OPEN and not complete, or is OPEN and
complete, by the departure of lane A that the closing's MISSED strike brings; or there is none. -/
theorem test_hyps_HasClosedOn :
    (((slots 7 [slot 7 .opened [], slot 8 (.ripe .expired) [⟨.a, 1⟩]]).closeSlot 0 (slot 7 .opened [])
      [slot 8 (.ripe .expired) [⟨.a, 1⟩]] .expired).voteOf 0).slots = [slot 8 (.ripe .expired) [⟨.a, 1⟩]] ∧
    (((slots 7 pair).closeSlot 0 (slot 7 .opened []) pair.tail .expired).voteOf 0).slots = pair.tail ∧
    (slot 8 .opened [⟨.b, 4⟩, ⟨.c, 4⟩]).complete = false ∧
    (((lastStrike.closeSlot 0 (slot 7 .opened [⟨.b, 3⟩, ⟨.c, 3⟩]) pair.tail .expired).voteOf 0).slots.map Slot.state =
      [.opened] ∧
    ((lastStrike.closeSlot 0 (slot 7 .opened [⟨.b, 3⟩, ⟨.c, 3⟩]) pair.tail .expired).voteOf 0).slots.map Slot.complete =
      [true]) ∧
    (((slots 7 pair).closeSlot 0 (slot 7 .opened []) [] .expired).voteOf 0).slots = [] := by
  decide +kernel

theorem test_hyps_SuccessorRipensAndFollows :
    ((slots 7 [slot 7 .opened [], slot 8 .opened [⟨.a, 1⟩]]).voteOf 0).slots =
      [slot 7 .opened [], slot 8 .opened [⟨.a, 1⟩]] ∧
    (slot 7 .opened []).serial ≠ (slot 8 .opened [⟨.a, 1⟩]).serial ∧ timeReached base.time (slot 8 .opened []).deadline = true ∧
    (slot 8 (.ripe .complete) []).state ≠ .opened ∧ (slot 8 (.ripe .expired) []).state = .ripe .expired := by
  decide +kernel

/-- Three lanes' values at the tolerance and one past it: 3, 2 and 1 agree with the median. -/
theorem test_hyps_OutcomeFollowsTheScoring :
    levelPoint.mode = .majority ∧ levelPoint.quorum ≤ 3 ∧
    (([1, 11, 21] : List Value).filter fun v => agree levelPoint v 11).length = 3 ∧
    (([1, 11, 22] : List Value).filter fun v => agree levelPoint v 11).length = 2 ∧
    (([0, 11, 22] : List Value).filter fun v => agree levelPoint v 11).length = 1 ∧
    ([⟨.a, 0⟩, ⟨.b, 11⟩, ⟨.c, 22⟩].map Proposal.lane).Nodup ∧
    (∃ q ∈ [⟨.a, 0⟩, ⟨.b, 11⟩, (⟨.c, 22⟩ : Proposal)], some Lane.c = some q.lane) ∧
    ∀ q ∈ [⟨.a, 0⟩, ⟨.b, 11⟩, (⟨.c, 22⟩ : Proposal)], (none : Option Lane) ≠ some q.lane := by
  decide +kernel

theorem test_hyps_DecidedValueWasCounted :
    (decideOutcome levelPoint [⟨.a, 1⟩, ⟨.b, 11⟩] none).2 = some 1 ∧
    ([⟨.a, 1⟩] : List Proposal).length < levelPoint.quorum ∧
    ({ levelPoint with quorum := 1 } : PointCfg).quorum ≤ ([⟨.a, 1⟩] : List Proposal).length ∧
    levelPoint.quorum ≤ ([⟨.a, 1⟩, ⟨.b, 12⟩] : List Proposal).length ∧ levelPoint.mode = .majority ∧
    agree levelPoint 1 12 = false ∧ agree levelPoint 1 11 = true ∧ Lane.a ≠ .b ∧
    (∀ q ∈ ([⟨.a, 1⟩, ⟨.b, 12⟩] : List Proposal), (some Lane.c) ≠ some q.lane) ∧
    ({ levelPoint with mode := .authority } : PointCfg).mode = .authority ∧
    (([⟨.a, 1⟩, ⟨.b, 12⟩] : List Proposal).map Proposal.lane).Nodup := by
  decide +kernel

theorem test_hyps_TwoCountedValues :
    agree levelPoint 1 11 = true ∧ agree levelPoint 1 12 = false ∧ levelPoint.mode = .majority ∧ levelPoint.quorum ≤ 2 := by
  decide +kernel

/-- The inputs of a closing of point 0. -/
def closing (m : PointMode) (holder : Option Lane) (safe : Bool) : ClosingInput :=
  ⟨{ levelPoint with mode := m }, slot 7 .opened [⟨.a, 1⟩, ⟨.b, 11⟩], .complete, ⟨.member, .member, .member⟩, holder, safe⟩

/-- A closing by the window in which lane A is MEMBER, B an observer and C, MEMBER, silent. -/
def observing : ClosingInput :=
  { closing .majority none false with cause := .expired, lanes := ⟨.member, .probation, .member⟩ }

theorem test_hyps_ScoringIgnoresModeAndHolder :
    (closing .majority none false).slot = (closing .authority (some .a) true).slot ∧
    (closing .majority none false).cause = (closing .authority (some .a) true).cause ∧
    (closing .majority none false).lanes = (closing .authority (some .a) true).lanes ∧
    (closing .majority none false).cfg.kind = (closing .authority (some .a) true).cfg.kind ∧
    (closing .majority none false).cfg.tolerance = (closing .authority (some .a) true).cfg.tolerance ∧
    (closing .majority none false).lanes.get .a = .member ∧
    (observing.slot.proposals.map Proposal.lane).Nodup ∧ (LaneState.excluded.joined = false) ∧
    (observing.lanes.get .c = .member ∧ (∀ q ∈ observing.slot.proposals, q.lane ≠ .c) ∧ observing.cause = .expired ∧
      observing.slot.roll.get .c = true) ∧
    (∀ q ∈ ({ observing with slot := slot 7 .opened [⟨.a, 1⟩] } : ClosingInput).slot.proposals, q.lane ≠ .b) ∧
    (⟨.b, 11⟩ ∈ observing.slot.proposals ∧ observing.lanes.get .b = .probation ∧ observing.lanes.get .a = .member) := by
  decide +kernel

/-- `base` with lane A's counts. -/
def counts (strikes cleanRun credit : Nat) (st : LaneState) : State :=
  { base with lm := base.lm.set .a { joinedEntry st with strikes := strikes, cleanRun := cleanRun, credit := credit } }

theorem test_hyps_VerdictsTaken :
    ((idle .operate).laneState .a).joined = false ∧ base.laneState .a = .member ∧
    ((counts 1 0 0 .member).lane .a).strikes + 1 ≠ (counts 1 0 0 .member).global.strikeLimit ∧
    ((counts 2 0 0 .member).lane .a).strikes + 1 = (counts 2 0 0 .member).global.strikeLimit ∧
    (counts 0 0 6 .probation).laneState .a = .probation ∧
    ((counts 0 0 6 .probation).lane .a).credit + 1 ≠ (counts 0 0 6 .probation).global.probationLength ∧
    ((counts 0 0 7 .probation).lane .a).credit + 1 = (counts 0 0 7 .probation).global.probationLength := by
  decide +kernel

theorem test_hyps_JoinIsJudgedAndTaken :
    base.TakesAtOnce .ml ∧ base.TakesAtOnce (.lane .a) ∧ (idle .operate).TakesAtOnce (.lane .a) ∧
    ({ idle .operate with lu := { base.lu with la := readyLink } } : State).TakesAtOnce (.lane .a) ∧
    (([1, 2, 3] : List Byte).length ≠ 4 ∧ (idle .config).cu.mode = .config ∧ (idle .operate).cu.mode = .operate ∧
    (lanes .absent .down .down).laneState .a = .absent ∧
    (({ base with lm := base.lm.set .a (excludedEntry 0) } : State).laneState .a = .excluded ∧
      (({ base with lm := base.lm.set .a (excludedEntry 0) } : State).lane .a).holdDeadline = some 0 ∧
      timeReached base.time 0 = true ∧ timeReached base.time 1 = false) ∧
    ((lanes .probation .member .down).laneState .a).joined = true ∧
    (({ idle .operate with lu := { base.lu with la := readyLink } } : State).link (Lane.a).link).state = .ready ∧
    (idle .operate).laneState .a = .down ∧ ((idle .operate).link (Lane.a).link).state = .run ∧
    (6 : Word32) ≠ (idle .operate).cu.digest ∧ (7 : Word32) = (idle .operate).cu.digest) := by
  refine ⟨takes _ _ rfl rfl, takes _ _ rfl rfl, takes _ _ rfl rfl, ⟨rfl, rfl, rfl, by decide⟩, by decide +kernel⟩

theorem test_hyps_LeaveTakesTheLaneDown :
    base.TakesAtOnce .ml ∧ base.TakesAtOnce (.lane .a) ∧ (idle .operate).TakesAtOnce (.lane .a) ∧
    ([0] : List Byte) ≠ [] ∧ ((idle .operate).laneState .a).joined = false ∧ (base.laneState .a).joined = true :=
  ⟨takes _ _ rfl rfl, takes _ _ rfl rfl, takes _ _ rfl rfl, by decide +kernel⟩

theorem test_hyps_BeatIsAnsweredWithTheState :
    base.TakesAtOnce (.lane .a) ∧ ∀ b h, ([1, 2] : List Byte) = [b, h] → h ≠ 0 ∧ h ≠ 1 := by
  refine ⟨takes _ _ rfl rfl, fun b h e => ?_⟩
  cases e
  decide

theorem test_hyps_BeatLossDepartsTheLane :
    base.TakesAtOnce (.lane .a) ∧ (lanes .down .excluded .absent).TakesAtOnce (.lane .a) ∧
    ((lanes .down .excluded .absent).laneState .a).joined = false ∧ (base.laneState .a).joined = true ∧ base.resetN = .high ∧
    (base.lane .a).beatDeadline = some 0 ∧ timeReached base.time 0 = true ∧
    timeReached ({ base with time := 4294967295 } : State).time 0 = false ∧
    ((lanes .probation .member .down).laneState .a).joined = true ∧ ((lanes .down .down .down).laneState .a).joined = false :=
  ⟨takes _ _ rfl rfl, takes _ _ rfl rfl, by decide +kernel⟩

theorem test_hyps_HoldExpiryMakesTheLaneDown :
    (({ base with lm := base.lm.set .a (excludedEntry 0) } : State).lane .a).holdDeadline = some 0 ∧
    ({ base with lm := base.lm.set .a (excludedEntry 0) } : State).laneState .a = .excluded ∧
    timeReached base.time 0 = true ∧ timeReached base.time 1 = false := by decide +kernel

theorem test_hyps_LastMemberTakesProbationDown :
    (lanes .member .probation .down).TakesAtOnce (.lane .a) ∧ (lanes .member .probation .down).laneState .a = .member ∧
    (∀ k, k ≠ .a → (lanes .member .probation .down).laneState k ≠ .member) ∧ Lane.b ≠ .a ∧
    (lanes .member .probation .down).laneState .b = .probation :=
  ⟨takes _ _ rfl rfl, rfl, fun k hk => by cases k <;> first | exact absurd rfl hk | decide +kernel, by decide, rfl⟩

theorem test_hyps_ClaimResults :
    base.TakesAtOnce .ml ∧ base.TakesAtOnce (.lane .a) ∧ ([0] : List Byte) ≠ [] ∧ (idle .config).cu.mode = .config ∧
    base.cu.mode = .operate ∧ (lanes .probation .member .down).laneState .a ≠ .member ∧ base.laneState .a = .member ∧
    base.au.holder = none ∧ ({ base with au := ⟨some .a, 4, []⟩ } : State).au.holder = some .a ∧
    (({ base with au := ⟨some .b, 4, [.c, .a]⟩ } : State).au.holder = some .b ∧ Lane.b ≠ .a ∧ Lane.a ∈ [Lane.c, .a]) ∧
    Lane.a ∉ [Lane.c] :=
  ⟨takes _ _ rfl rfl, takes _ _ rfl rfl, by decide +kernel⟩

theorem test_hyps_AuthorityIsYieldedAndClaimsWithdrawn :
    base.TakesAtOnce .ml ∧ ({ base with au := ⟨some .a, 65535, [.c, .b]⟩ } : State).TakesAtOnce (.lane .a) ∧
    ([0] : List Byte).length ≠ 2 ∧ base.au.holder ≠ some .a ∧
    ({ base with au := ⟨some .a, 65535, [.c, .b]⟩ } : State).au.holder = some .a ∧
    (0 : Serial) ≠ ({ base with au := ⟨some .a, 65535, [.c, .b]⟩ } : State).au.epoch ∧
    (65535 : Serial) = ({ base with au := ⟨some .a, 65535, [.c, .b]⟩ } : State).au.epoch ∧ ([0] : List Byte) ≠ [] ∧
    Lane.a ∉ base.au.claims ∧ Lane.c ∈ [Lane.c, .b] ∧ [Lane.c, .b].Nodup :=
  ⟨takes _ _ rfl rfl, takes _ _ rfl rfl, by decide +kernel⟩

/-- Lane A holds authority with this claim queue. -/
def held (a b c : LaneState) (claims : List Lane) (auto : Bool) : State :=
  { lanes a b c with
    au := ⟨some .a, 4, claims⟩
    cu := { base.cu with active := ⟨{ defaultGlobal all3 with autoSuccession := auto }, testImage.points⟩ } }

theorem test_hyps_DepartureOfTheHolder :
    (held .member .member .member [.c, .b] true).TakesAtOnce (.lane .a) ∧
    (held .member .member .member [.c, .b] true).AuthoritySound ∧
    (held .member .member .member [.c, .b] true).TakesAtOnce (.lane .b) ∧
    ((held .member .member .member [.c, .b] true).au.holder ≠ some .b ∧
    (held .member .member .member [.c, .b] true).au.holder = some .a ∧
    (held .member .member .member [.c, .b] true).au.claims = [.c, .b] ∧
    (held .member .member .member [] false).global.autoSuccession = false ∧
    (held .member .member .member [] true).global.autoSuccession = true) ∧
    (∀ m, m ≠ .a → (held .member .down .down [] true).laneState m ≠ .member) ∧
    ∀ k, k ≠ .a → k ≠ .b → (held .member .member .member [] true).laneState k = .member →
      (held .member .member .member [] true).global.ranks.get .b < (held .member .member .member [] true).global.ranks.get k := by
  refine ⟨takes _ _ rfl rfl, ⟨fun l h => ?_, by decide, fun l h => ?_, nofun⟩, takes _ _ rfl rfl, by decide +kernel,
    fun m => ?_, fun k => ?_⟩
  · cases l <;> rfl
  · cases l <;> first | exact ⟨rfl, by decide⟩ | exact absurd h (by decide)
  · cases m <;> decide +kernel
  · cases k <;> decide +kernel

/-- Lane A one credit short of its promotion, B the only MEMBER, the safe condition holding. -/
def promoting : State :=
  { lanes .probation .member .down with
    lm := ⟨{ joinedEntry .probation with credit := 7 }, joinedEntry .member, powerOnLane true⟩, sc := powerOnSafe }

/-- Table 6.1, row by row, and the promotion that leaves the condition. -/
theorem test_hyps_SafeConditionRows :
    ((idle .config).cu.mode = .config ∧ ({ idle .config with sc := ⟨false, .high, none⟩ } : State).sc.flag = false) ∧
    ((lanes .member .down .down).memberCount < (lanes .member .down .down).global.minMembers ∧
      (lanes .member .down .down).sc.flag = false) ∧
    (¬ (base.cu.mode = .config ∨ base.memberCount < base.global.minMembers) ∧
      ({ base with sc := powerOnSafe } : State).sc.flag = true) ∧
    (base.sc.flag = false ∧ (idle .config).sc.flag = true) ∧
    promoting.cu.mode = .operate ∧ promoting.sc.flag = true ∧ promoting.laneState .a = .probation ∧
    (promoting.lane .a).credit + 1 = promoting.global.probationLength ∧
    promoting.global.minMembers ≤ promoting.memberCount + 1 := by
  decide +kernel

/-- The queues that HasTold and HasReported speak of: one below full, full, and room for 4. -/
theorem test_hyps_HasTold :
    (List.replicate 15 (Notice.safe .exited 2 2)).length < 16 ∧ 16 ≤ (List.replicate 16 (Notice.safe .exited 2 2)).length ∧
    (List.replicate 12 (Notice.safe .exited 2 2)).length + 4 ≤ 16 ∧
    base.ij.state ≠ .frozen ∧ (run (.leave (.lane .a) 1 []) base).ij.state ≠ .frozen ∧
    ((run (.leave (.lane .a) 1 []) base).laneState .b).joined = true := by
  decide +kernel

theorem test_hyps_SafeConditionIsEnteredAndLeft :
    (lanes .member .member .down).TakesAtOnce (.lane .a) ∧
    ({ idle .operate with cu := { base.cu with active := ⟨{ defaultGlobal all3 with minMembers := 1 }, testImage.points⟩ } } :
      State).TakesAtOnce (.lane .a) ∧
    ((lanes .member .member .down).cu.mode = .operate ∧ (lanes .member .member .down).sc.flag = false ∧
    (lanes .member .member .down).laneState .a = .member ∧
    (lanes .member .member .down).memberCount ≤ (lanes .member .member .down).global.minMembers ∧
    ((lanes .member .member .down).cfgOf 0).enabled = true ∧ ((lanes .member .member .down).driveOf 0).status ≠ .faulted ∧
    ((lanes .member .member .down).cfgOf 1).enabled = false ∧ ((drive .faulted 0).driveOf 0).status = .faulted) ∧
    (idle .operate).sc.flag = true ∧ (idle .operate).laneState .a = .down ∧
    ((idle .operate).link (Lane.a).link).state = .run ∧ (idle .operate).memberCount = 0 ∧
    ({ idle .operate with cu := { base.cu with active := ⟨{ defaultGlobal all3 with minMembers := 1 }, testImage.points⟩ } } :
      State).global.minMembers = 1 :=
  ⟨takes _ _ rfl rfl, takes _ _ rfl rfl, by decide +kernel, by decide +kernel⟩

/-- `base` with an open restart collection. -/
def voting (voters : LaneSet) (d : Time) : State := { base with sc := ⟨false, .high, some ⟨voters, d⟩⟩ }

/-- One lane fitted, and MEMBER. -/
def single : State :=
  { base with cu := { base.cu with active := ⟨{ defaultGlobal ⟨true, false, false⟩ with minMembers := 1 }, testImage.points⟩ } }

theorem test_hyps_RestartVotesAreCollected :
    base.TakesAtOnce (.lane .a) ∧ (voting ⟨true, false, false⟩ 1).TakesAtOnce (.lane .a) ∧
    ([0] : List Byte) ≠ [] ∧ (idle .config).cu.mode = .config ∧ base.cu.mode = .operate ∧
    (lanes .probation .member .down).laneState .a ≠ .member ∧ base.laneState .a = .member ∧ base.sc.collection = none ∧
    2 ≤ base.global.fitted.count / 2 + 1 ∧
    ((voting ⟨true, false, false⟩ 1).sc.collection = some ⟨⟨true, false, false⟩, 1⟩ ∧
      (⟨true, false, false⟩ : LaneSet).get .a = true) ∧
    ((voting ⟨false, false, false⟩ 1).sc.collection = some ⟨⟨false, false, false⟩, 1⟩ ∧
      LaneSet.count ⟨false, false, false⟩ + 1 < base.global.fitted.count / 2 + 1) ∧
    timeReached base.time 0 = true ∧ timeReached base.time 1 = false :=
  ⟨takes _ _ rfl rfl, takes _ _ rfl rfl, by decide +kernel⟩

theorem test_hyps_WarmRestartReinitialises :
    (voting ⟨false, true, false⟩ 1).TakesAtOnce (.lane .a) ∧ single.TakesAtOnce (.lane .a) ∧ base.TakesAtOnce .ml ∧
    (∀ c, (voting ⟨false, true, false⟩ 1).sc.collection = some c → c.voters.get .a = false) ∧
    (∀ c, single.sc.collection = some c → c.voters.get .a = false) ∧
    (voting ⟨false, true, false⟩ 1).global.fitted.count / 2 + 1 ≤ LaneSet.count ⟨false, true, false⟩ + 1 ∧
    single.global.fitted.count / 2 + 1 ≤ 0 + 1 ∧ single.laneState .a = .member ∧ single.cu.mode = .operate ∧
    ([0] : List Byte) ≠ [] ∧ (idle .config).cu.mode = .config :=
  ⟨takes _ _ rfl rfl, takes _ _ rfl rfl, takes _ _ rfl rfl, fun c h => by cases h; rfl, nofun, by decide +kernel⟩

theorem test_hyps_PointReadReportsThePoint :
    base.TakesAtOnce .ml ∧ base.TakesAtOnce (.lane .a) ∧ ([] : List Byte).length ≠ 1 ∧ 64 ≤ (64 : Byte).toNat ∧
    (63 : Byte).toNat = (63 : Fin 64).val :=
  ⟨takes _ _ rfl rfl, takes _ _ rfl rfl, by decide +kernel⟩

theorem test_hyps_PointReadHidesProposals :
    ((slots 7 [slot 7 .opened [⟨.a, 3⟩]]).link (ReqLink.lane .b).link).waiting = [] ∧
    (slots 7 [slot 7 .opened [⟨.a, 3⟩]]).veiled = (slots 7 [slot 7 .opened [⟨.a, 4⟩]]).veiled ∧
    (∃ t, exec (.pointRead (.lane .b) 1 [0]) (slots 7 [slot 7 .opened [⟨.a, 3⟩]]) = .next t) ∧
    ∃ t, exec (.pointRead (.lane .b) 1 [0]) (slots 7 [slot 7 .opened [⟨.a, 4⟩]]) = .next t := by
  refine ⟨rfl, ?_, ⟨_, rfl⟩, ⟨_, rfl⟩⟩
  have h : (slots 7 [slot 7 .opened [⟨.a, 3⟩]]).veiled.ve = (slots 7 [slot 7 .opened [⟨.a, 4⟩]]).veiled.ve := by
    apply PerPoint.eq_of_at
    intro p
    simp only [State.veiled, PerPoint.at_tabulate, slots, State.voteOf_putVote]
    split <;> rfl
  exact congrArg (fun ve => ({ base with ve := ve } : State)) h

theorem test_hyps_PointClearRequeuesTheFaultedPoint :
    ({ drive .faulted 0 with au := ⟨some .a, 4, []⟩ } : State).TakesAtOnce (.lane .a) ∧ (drive .faulted 0).TakesAtOnce .ml ∧
    ([0] : List Byte).length ≠ 3 ∧ base.au.holder ≠ some .a ∧
    ({ drive .faulted 0 with au := ⟨some .a, 4, []⟩ } : State).au.holder = some .a ∧
    (3 : Serial) ≠ ({ drive .faulted 0 with au := ⟨some .a, 4, []⟩ } : State).au.epoch ∧
    (4 : Serial) = ({ drive .faulted 0 with au := ⟨some .a, 4, []⟩ } : State).au.epoch ∧ 64 ≤ (64 : Byte).toNat ∧
    (63 : Byte).toNat = (63 : Fin 64).val ∧ (base.driveOf 63).status ≠ .faulted ∧ (0 : Byte).toNat = (0 : Fin 64).val ∧
    ((drive .faulted 0).driveOf 0).status = .faulted :=
  ⟨takes _ _ rfl rfl, takes _ _ rfl rfl, by decide +kernel⟩

theorem test_hyps_HandOffByStatus :
    ((drive .faulted 0).du.part 0).status = .faulted ∧
    (((drive .idle 1).du.part 0).status = .idle ∧ ((drive .idle 1).du.part 0).target = 5 ∧
      ((drive .idle 1).du.part 0).confirmed = some 5) ∧
    ¬ (((drive .idle 1).du.part 0).target = 6 ∧ ((drive .idle 1).du.part 0).confirmed = some 6) ∧
    ((drive .queued 1).du.part 0).status = .queued ∧ ((drive .inFlight 1).du.part 0).status = .inFlight := by
  decide +kernel

/-- Point 0 at the head of the apply queue, 7 entries in the echo table that hold the next 7 tags. -/
def dispatching : State :=
  { drive .queued 1 with du := { (drive .queued 1).du with
      queue := [0], echoes := (List.range 7).map fun j => ⟨1, BitVec.ofNat 8 (j + 1), 0, 0⟩ } }

theorem test_hyps_DispatchSendsTheHead :
    dispatching.resetN = .high ∧ dispatching.du.queue = [0] ∧ (dispatching.link .dl).state = .run ∧
    1 ≤ (dispatching.link .dl).credit ∧ (dispatching.link .dl).sending = none ∧ dispatching.du.echoes.length < 8 := by
  decide +kernel

theorem test_hyps_EchoConfirmsOrIsStray :
    (flying 1 0).resetN = .high ∧ ((flying 1 0).link .dl).state.up = true ∧ ((flying 1 0).link .dl).waiting.length < 4 ∧
    (0 : Byte).toNat = (0 : Fin 64).val ∧ (flying 1 0).du.entryOf 0 9 = some ⟨0, 9, 5, 0⟩ ∧
    agree ((flying 1 0).cfgOf 0) 15 5 = true ∧
    ∀ e ∈ (flying 1 0).du.echoes, ¬ (e.point.val = (255 : Byte).toNat ∧ e.tag = 9) := by
  decide +kernel

theorem test_hyps_ApplyFailureRetriesOrFaults :
    (flying 1 0).resetN = .high ∧ (flying 1 0).du.entryOf 0 9 = some ⟨0, 9, 5, 0⟩ ∧ timeReached (flying 1 0).time 0 = true ∧
    (flying 1 1).du.entryOf 0 9 = some ⟨0, 9, 5, 1⟩ ∧ timeReached (flying 1 1).time 1 = false ∧
    1 ≤ ((flying 1 0).driveOf 0).budget ∧ ¬ 1 ≤ ((flying 0 0).driveOf 0).budget ∧
    ((flying 1 0).link .dl).state.up = true ∧ ((flying 1 0).link .dl).waiting.length < 4 ∧
    agree ((flying 1 0).cfgOf 0) 16 5 = false := by
  decide +kernel

theorem test_faulted_drive_is_sound : (drive .faulted 0).DriveSound := by
  unfold State.DriveSound
  decide +kernel

/-- `drive .faulted 0` with four replies owed on ML, the first being sent, and a STATUS request waiting. -/
def faultedWaiting : State :=
  (drive .faulted 0).putLink .ml { upLink with
    replies := List.replicate 4 ⟨0x78, 1, .ok, .nothing⟩, waiting := [⟨0x78, 2, [0]⟩], peerCredit := 3
    sending := some (.reply ⟨0x78, 1, .ok, .nothing⟩) }

theorem test_hyps_FaultedPointStaysFaulted :
    faultedWaiting.DriveSound ∧
    (∀ link, ∀ r ∈ (faultedWaiting.link link).waiting, r.kind ≠ 0x51 ∧ r.kind ≠ 0x73 ∧ r.kind ≠ 0x40) ∧
    (faultedWaiting.driveOf 0).status = .faulted ∧
    (∀ link tag payload, Instr.frameSent .ml ≠ .pointClear link tag payload ∧
      Instr.frameSent .ml ≠ .cfgCommit link tag payload) ∧
    (∀ l tag payload, Instr.frameSent .ml ≠ .restart l tag payload ∧
      Instr.frameSent .ml ≠ .maintenanceRestart tag payload) ∧
    Instr.frameSent .ml ≠ .resetAssert ∧ (∀ f, Instr.frameSent .ml ≠ .resetRelease f) ∧
    (∃ t, exec (.frameSent .ml) faultedWaiting = .next t) ∧ (run (.frameSent .ml) faultedWaiting).lu.ml.waiting = [] :=
  ⟨test_faulted_drive_is_sound, fun l => by cases l <;> decide +kernel, by decide +kernel, fun _ _ _ => ⟨nofun, nofun⟩,
    fun _ _ _ => ⟨nofun, nofun⟩, nofun, nofun, ⟨_, rfl⟩, by decide +kernel⟩

/-- `base` with a journal of two records from sequence 4294967295 on, in this state. -/
def journal (st : JournalState) (subject : Option Lane) : State :=
  { base with
    ij := ⟨[⟨4294967295, 0, none, .restart .maintenance all3⟩, ⟨0, 0, none, .restart .maintenance all3⟩], 1, st,
      some ⟨0, .restart, subject⟩, 1, 0⟩ }

theorem test_hyps_JournalIsReadAndRearmed :
    base.TakesAtOnce (.lane .a) ∧ (journal .frozen none).TakesAtOnce (.lane .a) ∧ base.TakesAtOnce .ml ∧
    (([0] : List Byte).length ≠ 4 ∧ base.ij.state ≠ .frozen ∧ (journal .frozen none).ij.state = .frozen ∧
    ({ journal .frozen none with lm := (lanes .down .member .member).lm } : State).laneState .a ≠ .member ∧
    (journal .frozen (some .a)).ij.trigger.bind Trigger.subject = some .a ∧ (journal .frozen none).laneState .a = .member ∧
    (journal .frozen none).ij.trigger.bind Trigger.subject ≠ some .a ∧ base.ij.ring = [] ∧
    ((0 : Word32) - 4294967295).toNat = 1 ∧ ((1 : Word32) - 4294967295).toNat = 2 ∧
    ((2147483646 : Word32) - 4294967295).toNat = 2147483647 ∧ ((2147483647 : Word32) - 4294967295).toNat = 2147483648 ∧
    (journal .frozen none).ij.ring.length = 2 ∧ ([0] : List Byte).length ≠ 2 ∧ base.au.holder ≠ some .a ∧
    ({ journal .frozen none with au := ⟨some .a, 4, []⟩ } : State).au.holder = some .a ∧ (3 : Serial) ≠ 4 ∧
    base.ij.state = .recording ∧ (journal .postTrigger none).ij.state ≠ .recording) ∧
    ∀ l, ReqLink.ml = .lane l → base.ij.state = .frozen ∧ base.laneState l = .member ∧
      base.ij.trigger.bind Trigger.subject ≠ some l :=
  ⟨takes _ _ rfl rfl, takes _ _ rfl rfl, takes _ _ rfl rfl, by decide +kernel, nofun⟩

/-- `base` with the RESTART trigger selected and this post-trigger count. -/
def triggering (post : Nat) : State :=
  { base with cu := { base.cu with active :=
    ⟨{ defaultGlobal all3 with triggers := ⟨false, false, false, false, false, true⟩, postCount := post }, testImage.points⟩ } }

theorem test_hyps_RecordsAndNoticesAreTaken :
    (journal .frozen none).ij.state = .frozen ∧ base.ij.state = .recording ∧
    base.global.triggers.selects (.restart .maintenance all3) = false ∧
    (triggering 255).global.triggers.selects (.restart .maintenance all3) = true ∧ (triggering 255).global.postCount ≠ 0 ∧
    (triggering 0).global.postCount = 0 ∧
    (({ base with ij := ⟨[], 1, .postTrigger, some ⟨0, .restart, none⟩, 2, 0⟩ } : State).ij.state = .postTrigger ∧
      2 ≤ ({ base with ij := ⟨[], 1, .postTrigger, some ⟨0, .restart, none⟩, 2, 0⟩ } : State).ij.postCounter) ∧
    ((journal .postTrigger none).ij.postCounter = 1 ∧
      (journal .postTrigger none).ij.trigger = some ⟨0, .restart, none⟩) ∧
    (⟨false, true, true⟩ : LaneSet).get .a = false ∧ ((idle .operate).laneState .a).joined = false ∧ all3.get .a = true ∧
    (base.laneState .a).joined = true ∧
    (({ base with nu := ⟨⟨List.replicate 15 (.safe .exited 2 2), 0, 0⟩, clearedBox, clearedBox⟩ } : State).nu.get
      .a).queue.length < 16 ∧
    16 ≤ (({ base with nu := ⟨⟨List.replicate 16 (.safe .exited 2 2), 255, 0⟩, clearedBox, clearedBox⟩ } : State).nu.get
      .a).queue.length := by
  decide +kernel

theorem test_hyps_SessionOpensAndIsAbandoned :
    base.TakesAtOnce .ml ∧ (idle .config).TakesAtOnce .ml ∧ (idle .operate).TakesAtOnce .ml ∧ ([0] : List Byte) ≠ [] ∧
    (idle .config).cu.mode = .config ∧ base.cu.mode = .operate ∧ (∃ l, (base.laneState l).joined = true) ∧
    (∃ p, ((slots 7 [slot 7 .opened []]).voteOf p).slots ≠ []) ∧ (∀ l, ((idle .operate).laneState l).joined = false) ∧
    (∀ p, ((idle .operate).voteOf p).slots = []) ∧ (idle .operate).SafetySound ∧ (idle .config).SafetySound ∧
    ({ idle .config with cu := { base.cu with mode := .config, committed := false } } : State).cu.committed = false ∧
    (idle .config).cu.committed = true := by
  refine ⟨takes _ _ rfl rfl, takes _ _ rfl rfl, takes _ _ rfl rfl, by decide, rfl, rfl, ⟨.a, rfl⟩, ⟨0, by decide +kernel⟩,
    fun l => by cases l <;> rfl, fun p => ?_, by unfold State.SafetySound; decide +kernel,
    by unfold State.SafetySound; decide +kernel, rfl, rfl⟩
  show (PerPoint.at (Vector.replicate 64 clearedVote) p).slots = []
  rw [PerPoint.at_replicate]
  rfl

theorem test_hyps_ConfigurationRecordsAreWrittenAndRead :
    (idle .config).TakesAtOnce .ml ∧ base.TakesAtOnce .ml ∧
    (∀ selector i bytes, ([2, 0] : List Byte) = selector :: i :: bytes →
      ¬ (selector = 0 ∧ bytes.length = 15) ∧ ¬ (selector = 1 ∧ bytes.length = 16)) ∧
    ((globalBytes { defaultGlobal all3 with strikeLimit := 16 }).length = 15 ∧
    (globalBytes { defaultGlobal all3 with strikeLimit := 16 })[2]? = some 16 ∧
    (pointBytes { levelPoint with tolerance := 32768 }).length = 16 ∧
    (pointBytes { levelPoint with tolerance := 32768 })[5]? = some 128 ∧ (idle .config).cu.mode = .config ∧
    base.cu.mode = .operate ∧ 64 ≤ (64 : Byte).toNat ∧ (63 : Byte).toNat < 64 ∧ (63 : Byte).toNat = (63 : Fin 64).val) ∧
    (defaultGlobal all3).InRange ∧ levelPoint.InRange ∧
    ∀ i x n, ([0, 2, 0] : List Byte) = [i, x, n] → 2 ≤ i.toNat ∨ 2 ≤ x.toNat := by
  refine ⟨takes _ _ rfl rfl, takes _ _ rfl rfl, fun a b c h => ?_, by decide +kernel, test_default_image_in_range.1,
    by unfold PointCfg.InRange; decide +kernel, fun i x n h => ?_⟩
  · cases h
    decide
  · cases h
    decide

theorem test_hyps_ConfigurationRecordsRoundTrip :
    ({ defaultGlobal all3 with postCount := 255, echoRetries := 3, minMembers := 3 } : GlobalCfg).InRange ∧
    ({ levelPoint with tolerance := 32767, window := 255, quorum := 3, min := -32768 } : PointCfg).InRange ∧
    readGlobal (globalBytes (defaultGlobal all3)) = .ok (defaultGlobal all3) ∧
    readPointRecord (pointBytes levelPoint) = .ok levelPoint :=
  ⟨by unfold GlobalCfg.InRange; decide +kernel, by unfold PointCfg.InRange; decide +kernel, by rfl, by rfl⟩

/-- A session that unfits lane C and fits A and B. -/
def unfitting : State :=
  (idle .config).putStaging ⟨{ defaultGlobal all3 with fitted := ⟨true, true, false⟩ },
    Vector.replicate 64 (defaultPoint all3)⟩

/-- `testImage` with this global record and this record of point 0. -/
def image (g : GlobalCfg) (c : PointCfg) : Image := ⟨g, testImage.points.put 0 c⟩

/-- Table 10.4: an image for each item code. -/
theorem test_validation_items :
    validateImage (image { defaultGlobal all3 with fitted := ⟨false, false, false⟩ } levelPoint) = some (.noLane, none) ∧
    validateImage (image { defaultGlobal ⟨true, false, false⟩ with minMembers := 2 } levelPoint) =
      some (.minMembers, none) ∧
    validateImage (image { defaultGlobal all3 with ranks := ⟨0, 1, 0⟩ } levelPoint) = some (.ranks, none) ∧
    validateImage (image (defaultGlobal all3) { levelPoint with electorate := ⟨false, false, false⟩ }) =
      some (.electorateEmpty, some 0) ∧
    validateImage (image (defaultGlobal all3) { levelPoint with quorum := 2, electorate := ⟨true, false, false⟩ }) =
      some (.quorum, some 0) ∧
    validateImage (image (defaultGlobal all3) { levelPoint with safe := 101 }) = some (.safeRange, some 0) ∧
    validateImage (image (defaultGlobal all3) { levelPoint with kind := .discrete, max := 1, tolerance := 1 }) =
      some (.discreteForm, some 0) := by
  decide +kernel

theorem test_hyps_CommitMakesTheStagingImageActive :
    base.TakesAtOnce .ml ∧ unfitting.TakesAtOnce .ml ∧ ([0] : List Byte) ≠ [] ∧ base.cu.mode = .operate ∧
    unfitting.cu.mode = .config ∧
    validateImage ((idle .config).putStaging ⟨{ defaultGlobal all3 with fitted := ⟨true, true, false⟩ }, testImage.points⟩
      ).cu.staging = some (.electorateUnfitted, some 0) ∧
    validateImage unfitting.cu.staging = none ∧ (∀ l, (unfitting.laneState l).joined = false) ∧ unfitting.SafetySound ∧
    unfitting.laneState .c ≠ .absent ∧ unfitting.cu.staging.global.fitted.get .c = false ∧
    unfitting.cu.staging.global.fitted.get .a = true ∧ unfitting.ij.state = .recording ∧
    (lanes .absent .down .down).laneState .a = .absent :=
  ⟨takes _ _ rfl rfl, takes _ _ rfl rfl, by decide, rfl, rfl, by decide +kernel, by decide +kernel,
    fun l => by cases l <;> rfl, by unfold State.SafetySound; decide +kernel, by decide +kernel⟩

/-- What HasRecorded speaks of: a journal FROZEN before, one not FROZEN after. -/
theorem test_hyps_HasRecorded :
    (journal .frozen none).ij.state = .frozen ∧ (run (.maintenanceRestart 1 []) base).ij.state ≠ .frozen ∧
    (run (.cfgCommit .ml 1 []) unfitting).ij.state = .recording ∧
    (run (.codeError .la) base).ij.state ≠ .frozen ∧
    (run (.maintenanceRestart 1 []) { base with au := ⟨some .b, 4, []⟩ }).ij.ring.map (fun r => (r.seq, r.subject, r.body.kind)) =
      [(1, none, .restart), (2, some .a, .lane), (3, some .b, .lane), (4, some .c, .lane), (5, some .b, .authority),
        (6, none, .safe)] := by
  decide +kernel

theorem test_hyps_ConfigurationChangesOnlyFromMaintenance :
    (Instr.restart .a 0 []).fromMaintenance = false ∧ (Instr.frameSent .la).fromMaintenance = false ∧
    ∃ t, exec (.restart .a 0 []) base = .next t := ⟨rfl, by decide, ⟨_, rfl⟩⟩

theorem test_hyps_StatusReportsThePart : base.TakesAtOnce .ml ∧ ([2] : List Byte) ≠ [0] ∧ ([2] : List Byte) ≠ [1] :=
  ⟨takes _ _ rfl rfl, by decide, by decide⟩

theorem test_hyps_KindsAreCheckedFirst :
    base.TakesAtOnce .ml ∧ base.TakesAtOnce (.lane .a) ∧ requestKind 0x79 = none ∧ requestKind 0xFF = none ∧
    ((0x78 : Byte), Instr.status (.lane .a) 1 []) ∈ [((0x70 : Byte), Instr.cfgOpen (.lane .a) 1 []),
      (0x71, .cfgWrite (.lane .a) 1 []), (0x72, .cfgRead (.lane .a) 1 []), (0x73, .cfgCommit (.lane .a) 1 []),
      (0x74, .cfgAbort (.lane .a) 1 []), (0x78, .status (.lane .a) 1 [])] :=
  ⟨takes _ _ rfl rfl, takes _ _ rfl rfl, by decide +kernel, by decide +kernel, by simp⟩

theorem test_hyps_FramesRoundTrip :
    checkFrame (frameBytes 0x22 7 [1, 0]) = some ⟨0x22, 7, [1, 0]⟩ ∧ (List.replicate 128 (0 : Byte)).length ≤ 128 ∧
    ([Lane.b, .c].length ≤ 2) ∧ upLink.state = .run ∧ upLink.sending = none ∧ readyLink.state = .ready ∧
    stoppedLink.state = .off ∧ ({ upLink with sending := some (.apply 0 1 5) } : LinkUnit).sending = some (.apply 0 1 5) := by
  decide +kernel

theorem test_hyps_LinksComeUp :
    base.resetN = .high ∧
    ((withLink .lb { stoppedLink with enabled := true, backoff := some 0 }).link .lb).backoff = some 0 ∧
    timeReached base.time 0 = true ∧ ((withLink .lb stoppedLink).link .lb).enabled = false ∧
    ((withLink .lb { stoppedLink with state := .waking }).link .lb).state = .waking ∧
    ((withLink .lb readyLink).link .lb).state = .ready ∧ ((withLink .lb { upLink with credit := 3 }).link .lb).state = .run ∧
    ((withLink .lb { upLink with credit := 3 }).link .lb).credit < 4 ∧ base.global.fitted.get .a = true ∧
    ((withLink .la stoppedLink).link (Lane.a).link).state = .off ∧
    (held .down .down .down [] true).global.fitted.get .a = true ∧ unfitting.global.fitted.get .a = true ∧
    (run (.cfgCommit .ml 1 []) unfitting).global.fitted.get .c = false ∧
    ((run (.cfgCommit .ml 1 []) unfitting).link (Lane.c).link).enabled = true ∧
    ((run (.cfgCommit .ml 1 []) unfitting).laneState .c).joined = false := by
  decide +kernel

theorem test_hyps_LinkErrorsTakeTheLinkDown :
    base.resetN = .high ∧ base.LinkFails .la (.codeError .la) .code ∧ base.LinkFails .la (.silenceTimeout .la) .silence ∧
    (withLink .la readyLink).LinkFails .la (.handshakeExpiry .la) .handshake ∧
    (withLink .la { upLink with credit := 4 }).LinkFails .la (.grant .la) .credit ∧
    (withLink .la { upLink with waiting := List.replicate 4 ⟨0x10, 0, []⟩ }).LinkFails .la (.startNoFreeBuffer .la) .credit ∧
    base.LinkFails .la (.framingError .la .frameTooLong) .framing ∧
    (withLink .la { upLink with waiting := List.replicate 4 ⟨0x10, 0, []⟩ }).LinkFails .la
      (.framingError .la .startInsideFrame) .credit ∧
    ((withLink .la stoppedLink).link .la).state.up = false ∧ (base.link .la).state.up = true ∧
    ((withLink .la readyLink).link .la).state = .ready ∧ (∀ n, Link.dl.lane? = some n → (base.laneState n).joined = false) ∧
    Link.la.lane? = some .a ∧ (base.link .la).state = .run ∧ (base.laneState .a).joined = true ∧
    timeReached base.time 1 = false ∧ (base.link .la).waiting.length < 4 :=
  ⟨rfl, rfl, ⟨rfl, 0, rfl, by decide⟩, ⟨rfl, rfl, 0, rfl, by decide⟩, ⟨rfl, rfl, by decide⟩, ⟨rfl, by decide⟩,
    ⟨rfl, .inr (by decide)⟩, ⟨rfl, by decide, by decide⟩, rfl, rfl, rfl, nofun, rfl, rfl, rfl, by decide, by decide⟩

theorem test_hyps_FramesAreReceivedAndSent :
    base.resetN = .high ∧ ((withLink .la stoppedLink).link .la).state.up = false ∧ (base.link .la).state.up = true ∧
    (base.link .la).waiting.length < 4 ∧ discards .la [1, 2] = true ∧ discards .dl (frameBytes 0x22 0 [0, 0]) = true ∧
    (List.replicate 133 (0 : Byte)).length ≤ 133 ∧
    (Instr.status .ml 1 [0]).request? = some (.ml, ⟨0x78, 1, [0]⟩) ∧
    4 ≤ ((withLink .ml { upLink with waiting := List.replicate 4 ⟨0x78, 1, [0]⟩ }).link .ml).waiting.length ∧
    4 ≤ ((withLink .ml { upLink with replies := List.replicate 4 ⟨0x78, 1, .ok, .nothing⟩ }).link .ml).replies.length ∧
    ((withLink .ml { upLink with replies := [⟨0x78, 1, .ok, .nothing⟩], credit := 1 }).link .ml).replies =
      [⟨0x78, 1, .ok, .nothing⟩] ∧
    (base.link .ml).replies = [] ∧
    ((withLink .ml { upLink with
      replies := List.replicate 4 ⟨0x78, 1, .ok, .nothing⟩, waiting := [⟨0x78, 2, [0]⟩, ⟨0x78, 3, [0]⟩], peerCredit := 2
      sending := some (.reply ⟨0x78, 1, .ok, .nothing⟩) }).link .ml).sending = some (.reply ⟨0x78, 1, .ok, .nothing⟩) ∧
    (({ base with nu := ⟨⟨[.safe .exited 2 2], 3, 255⟩, clearedBox, clearedBox⟩ } : State).nu.get .a).queue =
      [.safe .exited 2 2] ∧
    (base.nu.get .a).queue = [] ∧ (base.link .la).sending = none ∧
    ((withLink .dl { upLink with sending := some (.apply 0 1 5) }).link .dl).sending = some (.apply 0 1 5) ∧
    ∀ r, TxFrame.apply 0 1 5 ≠ .reply r :=
  ⟨rfl, rfl, rfl, by decide, by decide +kernel, by decide +kernel, by decide +kernel, by decide, by decide +kernel,
    by decide +kernel, rfl, rfl, rfl, rfl, rfl, rfl, rfl, fun r => by simp⟩

end Sys2Proof.Tests
end

/-! The point table at power-on (R12): the three parts of a point read out of `State.powerOn`, and the check G1 of
Table 10.4, which keeps the empty default electorate harmless. -/

namespace Sys2Proof.Machine

/-! ### The parts of a point at power-on -/

@[simp] theorem State.cfgOf_powerOn (straps : LaneSet) (q : List Instr) (p : Fin 64) :
    (State.powerOn straps q).cfgOf p = defaultPoint straps :=
  PerPoint.at_replicate (defaultPoint straps) p

@[simp] theorem State.voteOf_powerOn (straps : LaneSet) (q : List Instr) (p : Fin 64) :
    (State.powerOn straps q).voteOf p = clearedVote :=
  PerPoint.at_replicate clearedVote p

@[simp] theorem State.driveOf_powerOn (straps : LaneSet) (q : List Instr) (p : Fin 64) :
    (State.powerOn straps q).driveOf p = ⟨0, none, .idle, 1, 0⟩ :=
  PerPoint.at_replicate _ p

/-! ### An image with no lane fitted -/

theorem globalItem_eq_noLane {g : GlobalCfg} (h : g.fitted.isEmpty = true) : globalItem g = some .noLane := by
  rw [globalItem, if_pos h]

/-- A failing global check is the answer of the validation, whatever the points hold (R169). -/
theorem validateImage_of_globalItem {i : Image} {item : ItemCode} (h : globalItem i.global = some item) :
    validateImage i = some (item, none) := by
  rw [validateImage, h]

theorem validateImage_eq_noLane {i : Image} (h : i.global.fitted.isEmpty = true) :
    validateImage i = some (.noLane, none) :=
  validateImage_of_globalItem (globalItem_eq_noLane h)

/-! ### The obligation -/

/-- Settles O4: the parts of a point are entries of constant tables, and G1 refuses an image with no lane fitted. -/
theorem powerOnPointTable : Obligations.PowerOnPointTable := by
  refine ⟨fun straps q p => ⟨?config, ?vote, ?drive, rfl, rfl, rfl⟩, fun i noLane => ?refused⟩
  case config => exact State.cfgOf_powerOn straps q p
  case vote => exact State.voteOf_powerOn straps q p
  case drive => exact State.driveOf_powerOn straps q p
  case refused =>
    have empty : i.global.fitted.isEmpty = true := by rw [noLane]; rfl
    rw [validateImage_eq_noLane empty, Option.isSome_some]

end Sys2Proof.Machine

/-! Deciding two counted values (R46, R52). With fewer or more than three counted proposals there is no reference value
(R44), so the scoring and the outcome turn on the agreement of the pair alone; the value then decided is the nearer to
the safe value. -/

namespace Sys2Proof.Machine

/-! ### The reference value -/

@[simp] theorem length_insertByValue (p : Proposal) (ps : List Proposal) :
    (insertByValue p ps).length = ps.length + 1 := by
  induction ps with
  | nil => rfl
  | cons q rest ih =>
    rw [insertByValue]
    split
    · rw [List.length_cons, ih, List.length_cons]
    · rfl

/-- Putting proposals in their places one after the other keeps those already placed. -/
theorem length_foldl_insertByValue (ps sorted : List Proposal) :
    (ps.foldl (fun acc p => insertByValue p acc) sorted).length = sorted.length + ps.length := by
  induction ps generalizing sorted with
  | nil => rfl
  | cons p rest ih =>
    rw [List.foldl_cons, ih, length_insertByValue, List.length_cons]
    omega

@[simp] theorem length_orderByValue (ps : List Proposal) : (orderByValue ps).length = ps.length := by
  rw [orderByValue, length_foldl_insertByValue, List.length_nil, Nat.zero_add]

theorem referenceValue_eq_none {counted : List Proposal} (h : counted.length ≠ 3) : referenceValue counted = none := by
  rw [referenceValue]
  split
  next ordered =>
    have three : counted.length = 3 := by rw [← length_orderByValue, ordered]; rfl
    exact absurd three h
  next => rfl

@[simp] theorem referenceValue_pair (x y : Proposal) : referenceValue [x, y] = none :=
  referenceValue_eq_none (by simp)

/-! ### Two counted proposals -/

/-- The verdict on a counted lane of a pair does not look at the lane's value, only at whether the pair agrees (R46). -/
theorem countedVerdict_pair (cfg : PointCfg) (x y : Proposal) (v : Value) :
    countedVerdict cfg [x, y] v = if agree cfg x.value y.value then some .cleanVote else none := by
  rw [countedVerdict, referenceValue_pair]

theorem majorityOutcome_pair (cfg : PointCfg) (x y : Proposal) (held : Option Value) :
    majorityOutcome cfg [x, y] held =
      if agree cfg x.value y.value then (.agreed, some (nearerSafe cfg.safe x.value y.value)) else splitOutcome held := by
  rw [majorityOutcome, referenceValue_pair]

theorem decideOutcome_of_majority {cfg : PointCfg} {counted : List Proposal} (holder : Option Lane)
    (nonempty : counted ≠ []) (quorum : cfg.quorum ≤ counted.length) (mode : cfg.mode = .majority) :
    decideOutcome cfg counted holder = majorityOutcome cfg counted (holderValue counted holder) := by
  have not_empty : counted.length ≠ 0 := mt List.eq_nil_of_length_eq_zero nonempty
  rw [decideOutcome, if_neg not_empty, if_neg (Nat.not_lt.mpr quorum), mode]

/-! ### The value nearer the safe value -/

/-- `v` comes before `w` in R52's choice: it is no farther from the safe value, and the lower where both are equally
near. -/
def PrecedesBySafe (safe v w : Value) : Prop :=
  distance v safe ≤ distance w safe ∧ (distance v safe = distance w safe → v.toInt ≤ w.toInt)

theorem PrecedesBySafe.refl (safe v : Value) : PrecedesBySafe safe v v := ⟨le_rfl, fun _ => le_rfl⟩

theorem PrecedesBySafe.of_distance_lt {safe v w : Value} (h : distance v safe < distance w safe) :
    PrecedesBySafe safe v w :=
  ⟨h.le, fun same => absurd same h.ne⟩

/-- The three tests of R52's choice: nearer on the left, nearer on the right, or equally near and the lower. -/
theorem nearerSafe_cases (safe x y : Value) :
    (nearerSafe safe x y = x ∧ PrecedesBySafe safe x y) ∨ (nearerSafe safe x y = y ∧ PrecedesBySafe safe y x) := by
  rw [nearerSafe]
  split
  next left_nearer => exact .inl ⟨rfl, .of_distance_lt left_nearer⟩
  next left_not_nearer =>
    split
    next right_nearer => exact .inr ⟨rfl, .of_distance_lt right_nearer⟩
    next right_not_nearer =>
      have same : distance x safe = distance y safe :=
        Nat.le_antisymm (Nat.not_lt.mp right_not_nearer) (Nat.not_lt.mp left_not_nearer)
      split
      next x_lower => exact .inl ⟨rfl, same.le, fun _ => x_lower⟩
      next y_lower => exact .inr ⟨rfl, same.ge, fun _ => (Int.not_le.mp y_lower).le⟩

theorem nearerSafe_eq_or (safe x y : Value) : nearerSafe safe x y = x ∨ nearerSafe safe x y = y :=
  (nearerSafe_cases safe x y).imp And.left And.left

theorem nearerSafe_precedes {safe x y w : Value} (h : w = x ∨ w = y) : PrecedesBySafe safe (nearerSafe safe x y) w := by
  obtain ⟨chosen, precedes⟩ | ⟨chosen, precedes⟩ := nearerSafe_cases safe x y
  · obtain rfl | rfl := h
    · rw [chosen]; exact .refl safe w
    · rw [chosen]; exact precedes
  · obtain rfl | rfl := h
    · rw [chosen]; exact precedes
    · rw [chosen]; exact .refl safe w

/-! ### The obligation -/

/-- Settles O25: a pair has no reference value, so its agreement alone gives the verdicts and the outcome AGREED, and
the value decided precedes both in R52's order. -/
theorem twoCountedValues : Obligations.TwoCountedValues := by
  intro cfg x y holder
  refine ⟨fun agreeing => ?clean, fun disagreeing => ?noVerdict, fun agreeing mode quorum => ?decided⟩
  case clean => simp only [countedVerdict_pair, if_pos agreeing, and_self]
  case noVerdict => simp [countedVerdict_pair, disagreeing]
  case decided =>
    refine ⟨nearerSafe cfg.safe x.value y.value, ?agreed, nearerSafe_eq_or .., fun _ => nearerSafe_precedes⟩
    rw [decideOutcome_of_majority holder (List.cons_ne_nil _ _) quorum mode, majorityOutcome_pair, if_pos agreeing]

end Sys2Proof.Machine

/-! The lane table at power-on (R87): each entry is the power-on entry for its strap, and JOIN is refused in CONFIG mode
before the lane is looked at (Table 4.4). -/

namespace Sys2Proof.Machine

/-! ### The lane table at power-on -/

@[simp] theorem State.lane_powerOn (straps : LaneSet) (q : List Instr) (l : Lane) :
    (State.powerOn straps q).lane l = powerOnLane (straps.get l) :=
  PerLane.get_map powerOnLane straps l

@[simp] theorem State.notices_powerOn (straps : LaneSet) (q : List Instr) (l : Lane) :
    (State.powerOn straps q).nu.get l = clearedBox := by
  cases l <;> rfl

/-! ### JOIN in CONFIG mode -/

/-- Four bytes are always read as a digest (R184). -/
theorem readDigest_be32_isSome (d : Word32) : (readDigest (be32 d)).isSome = true := rfl

/-- Check 3 of Table 4.4: in CONFIG mode a JOIN of the right length is refused, whatever the lane's state. -/
theorem serveJoin_of_config (l : Lane) {payload : List Byte} {s : State}
    (read : (readDigest payload).isSome = true) (config : s.cu.mode = .config) :
    serveJoin l payload s = s.refuse .wrongMode := by
  obtain ⟨d, hd⟩ := Option.isSome_iff_exists.mp read
  rw [serveJoin, hd]
  exact if_pos config

/-! ### The obligation -/

/-- Settles O5: the lane table is the straps' image under `powerOnLane`, and JOIN's mode check comes before any check of
the lane's state. -/
theorem powerOnLaneTable : Obligations.PowerOnLaneTable := by
  refine ⟨fun straps q l => ⟨?entry, ?notices, rfl, rfl⟩, fun l digest s config => ?refused⟩
  case entry => exact State.lane_powerOn straps q l
  case notices => rw [State.notices_powerOn]; rfl
  case refused => exact serveJoin_of_config l (readDigest_be32_isSome digest) config

end Sys2Proof.Machine

/-! Notices and records in a row: what a lane that is sent several notices still holds of the first, and what the
Incident Journal still holds of the first of several records (R143, R152, R155). -/

namespace Sys2Proof.Machine

/-! ### Notices pushed one after the other -/

/-- A notice queue with these notices submitted in order (R143). -/
def NoticeBox.pushAll (ns : List Notice) (b : NoticeBox) : NoticeBox := ns.foldl (fun b n => b.push n) b

theorem NoticeBox.pushAll_cons (n : Notice) (ns : List Notice) (b : NoticeBox) :
    b.pushAll (n :: ns) = (b.push n).pushAll ns := rfl

theorem NoticeBox.pushAll_append (ns ms : List Notice) (b : NoticeBox) :
    b.pushAll (ns ++ ms) = (b.pushAll ns).pushAll ms := List.foldl_append

theorem NoticeBox.lost_le_push (n : Notice) (b : NoticeBox) : min 255 b.lost ≤ (b.push n).lost := by
  rcases Nat.lt_or_ge b.queue.length 16 with room | full
  · rw [push_of_room n room]; exact min_le_right _ _
  · rw [push_of_full n full]; simp only [satInc_eq_min]; omega

theorem NoticeBox.queue_isPrefix_pushAll (ns : List Notice) (b : NoticeBox) : b.queue <+: (b.pushAll ns).queue := by
  induction ns generalizing b with
  | nil => exact ⟨[], List.append_nil _⟩
  | cons n ns ih =>
    have one : b.queue <+: (b.push n).queue := by
      rcases Nat.lt_or_ge b.queue.length 16 with room | full
      · rw [push_of_room n room]; exact ⟨[n], rfl⟩
      · rw [push_of_full n full]
    exact one.trans (ih (b.push n))

theorem NoticeBox.lost_le_pushAll (ns : List Notice) (b : NoticeBox) : min 255 b.lost ≤ (b.pushAll ns).lost := by
  induction ns generalizing b with
  | nil => exact min_le_right _ _
  | cons n ns ih =>
    calc min 255 b.lost ≤ min 255 (b.push n).lost := le_min (min_le_left _ _) (b.lost_le_push n)
      _ ≤ ((b.push n).pushAll ns).lost := ih (b.push n)

theorem NoticeBox.queue_pushAll_of_full (ns : List Notice) {b : NoticeBox} (full : 16 ≤ b.queue.length) :
    (b.pushAll ns).queue = b.queue := by
  induction ns generalizing b with
  | nil => rfl
  | cons n ns ih =>
    rw [pushAll_cons, push_of_full n full]
    exact ih full

/-! ### Records submitted one after the other -/

theorem Journal.submitAll_append (m : TriggerMask) (k : Nat) (now : Time) (made more : List (Option Lane × RecordBody))
    (j : Journal) : j.submitAll m k now (made ++ more) = (j.submitAll m k now made).submitAll m k now more :=
  List.foldl_append

/-- `r` is one of the newest `n` records of the ring. -/
def Journal.AmongNewest (n : Nat) (r : Record) (j : Journal) : Prop :=
  ∃ older newer, j.ring = older ++ r :: newer ∧ newer.length < n

theorem Journal.AmongNewest.mem {n : Nat} {r : Record} {j : Journal} (h : j.AmongNewest n r) : r ∈ j.ring := by
  obtain ⟨older, newer, ring, -⟩ := h
  rw [ring]
  exact List.mem_append_right _ List.mem_cons_self

theorem Journal.ring_store_of_room {j : Journal} (room : j.ring.length < 256) (now : Time) (sub : Option Lane)
    (b : RecordBody) : (j.store now sub b).ring = j.ring ++ [⟨j.counter, now, sub, b⟩] := by
  simp [Journal.store, Config.ringCapacity, room]

theorem Journal.ring_store_of_full {j : Journal} (full : 256 ≤ j.ring.length) (now : Time) (sub : Option Lane)
    (b : RecordBody) : (j.store now sub b).ring = j.ring.tail ++ [⟨j.counter, now, sub, b⟩] := by
  simp [Journal.store, Config.ringCapacity, Nat.not_lt.mpr full]

theorem Journal.store_amongNewest (now : Time) (sub : Option Lane) (b : RecordBody) (j : Journal) :
    (j.store now sub b).AmongNewest 1 ⟨j.counter, now, sub, b⟩ :=
  ⟨_, [], rfl, Nat.one_pos⟩

/-- The ring discards a record only when 255 newer ones stand behind it (R152). -/
theorem Journal.AmongNewest.store {n : Nat} {r : Record} {j : Journal} (h : j.AmongNewest n r) (few : n < 256)
    (now : Time) (sub : Option Lane) (b : RecordBody) : (j.store now sub b).AmongNewest (n + 1) r := by
  obtain ⟨older, newer, ring, count⟩ := h
  have grown : (newer ++ [(⟨j.counter, now, sub, b⟩ : Record)]).length < n + 1 := by simpa using count
  rcases Nat.lt_or_ge j.ring.length 256 with room | full
  · refine ⟨older, _, ?_, grown⟩
    simp [ring_store_of_room room, ring]
  · cases older with
    | nil =>
      rw [ring] at full
      simp only [List.nil_append, List.length_cons] at full
      omega
    | cons oldest older =>
      refine ⟨older, _, ?_, grown⟩
      simp [ring_store_of_full full, ring]

theorem Journal.AmongNewest.submit {n : Nat} {r : Record} {j : Journal} (h : j.AmongNewest n r) (few : n < 256)
    (m : TriggerMask) (k : Nat) (now : Time) (sub : Option Lane) (b : RecordBody) :
    (j.submit m k now sub b).AmongNewest (n + 1) r := by
  by_cases frozen : j.state = .frozen
  · obtain ⟨older, newer, ring, count⟩ := h
    exact ⟨older, newer, by rw [submit_of_frozen m k now sub b frozen]; exact ring, Nat.lt_succ_of_lt count⟩
  · obtain ⟨older, newer, ring, count⟩ := h.store few now sub b
    exact ⟨older, newer, by rw [(submit_stores m k now sub b frozen).1]; exact ring, count⟩

theorem Journal.AmongNewest.submitAll {n : Nat} {r : Record} {j : Journal} (h : j.AmongNewest n r)
    (made : List (Option Lane × RecordBody)) (few : n + made.length ≤ 256) (m : TriggerMask) (k : Nat) (now : Time) :
    (j.submitAll m k now made).AmongNewest (n + made.length) r := by
  induction made generalizing n j with
  | nil => exact h
  | cons first rest ih =>
    rw [List.length_cons] at few ⊢
    have next := h.submit (by omega) m k now first.1 first.2
    have all := ih next (by omega)
    rwa [Nat.add_right_comm, Nat.add_assoc] at all

/-- The first of a run of at most 256 records is still held after the run, unless the journal was FROZEN before. -/
theorem Journal.first_mem_submitAll {j : Journal} (m : TriggerMask) (k : Nat) (now : Time) (sub : Option Lane)
    (b : RecordBody) (rest : List (Option Lane × RecordBody)) (few : rest.length < 256) (h : j.state ≠ .frozen) :
    ⟨j.counter, now, sub, b⟩ ∈ (j.submitAll m k now ((sub, b) :: rest)).ring := by
  have stored : (j.submit m k now sub b).AmongNewest 1 ⟨j.counter, now, sub, b⟩ := by
    obtain ⟨older, newer, ring, count⟩ := j.store_amongNewest now sub b
    exact ⟨older, newer, by rw [(submit_stores m k now sub b h).1]; exact ring, count⟩
  exact (stored.submitAll rest (by omega) m k now).mem

/-- HasTold, from the notices each joined lane has been sent and the records made on the way. -/
theorem State.hasTold {s t : State} {n : Notice} {sub : Option Lane} {b : RecordBody}
    (boxes : ∀ m, (t.laneState m).joined = true → ∃ ns, t.nu.get m = (s.nu.get m).pushAll (n :: ns))
    (records : ∃ rest, rest.length < 256 ∧
      t.ij = s.ij.submitAll s.global.triggers s.global.postCount s.time ((sub, b) :: rest)) :
    s.HasTold n sub b t := by
  obtain ⟨rest, few, journal⟩ := records
  refine ⟨fun m joined => ⟨fun room => ?queued, fun full => ?lost⟩, fun running => ?held, fun frozen => ?dropped⟩
  case queued =>
    obtain ⟨ns, box⟩ := boxes m joined
    rw [box, NoticeBox.pushAll_cons]
    simpa [NoticeBox.push_of_room n room] using ((s.nu.get m).push n).queue_isPrefix_pushAll ns
  case lost =>
    obtain ⟨ns, box⟩ := boxes m joined
    rw [box]
    refine ⟨NoticeBox.queue_pushAll_of_full _ full, ?_⟩
    have counted : ((s.nu.get m).push n).lost = min 255 ((s.nu.get m).lost + 1) := by
      rw [NoticeBox.push_of_full n full, satInc_eq_min]
    rw [NoticeBox.pushAll_cons, ← counted]
    simpa [counted] using ((s.nu.get m).push n).lost_le_pushAll ns
  case held =>
    rw [journal]
    exact Journal.first_mem_submitAll _ _ _ sub b rest few running
  case dropped =>
    rw [journal, Journal.submitAll_counts _ _ _ _ _ _ frozen]
    exact ⟨rfl, rfl⟩

end Sys2Proof.Machine

/-! What follows a change of a lane (R68, R75): no step behind the LANE record lets a lane join, touches a lane that is
neither PROBATION nor MEMBER, or makes more than a few records. -/

namespace Sys2Proof.Machine

/-! ### Votes without a lane -/

/-- The lane is on no roll and has no proposal in any slot (R34). -/
def State.HasNoVoteOf (l : Lane) (s : State) : Prop :=
  ∀ p, ∀ x ∈ (s.voteOf p).slots, x.roll.get l = false ∧ ∀ q ∈ x.proposals, q.lane ≠ l

theorem State.HasNoVoteOf.of_ve {l : Lane} {s t : State} (h : s.HasNoVoteOf l) (ve : t.ve = s.ve) :
    t.HasNoVoteOf l := by
  intro p
  have same : t.voteOf p = s.voteOf p := congrArg (PerPoint.at · p) ve
  rw [same]
  exact h p

theorem Slot.withoutSuccessor_roll (l : Lane) (x : Slot) : (x.withoutSuccessor l).roll = x.roll.remove l := by
  unfold Slot.withoutSuccessor
  dsimp only
  split <;> rfl

theorem Slot.withoutSuccessor_proposals (l : Lane) (x : Slot) :
    (x.withoutSuccessor l).proposals = x.proposals.filter fun p => p.lane != l := by
  unfold Slot.withoutSuccessor
  dsimp only
  split <;> rfl

/-- Every slot that a departure leaves is one that stood before, with the lane struck from its roll and proposals. -/
theorem mem_voidSlots {l : Lane} {xs : List Slot} {x : Slot} (h : x ∈ voidSlots l xs) :
    ∃ y ∈ xs, x.roll = y.roll.remove l ∧ x.proposals = y.proposals.filter fun p => p.lane != l := by
  cases xs with
  | nil => cases h
  | cons first rest =>
    rw [voidSlots, List.mem_cons, List.mem_map] at h
    obtain rfl | ⟨y, hy, rfl⟩ := h
    · exact ⟨first, List.mem_cons_self, rfl, rfl⟩
    · exact ⟨y, List.mem_cons_of_mem _ hy, y.withoutSuccessor_roll l, y.withoutSuccessor_proposals l⟩

theorem State.void_hasNoVoteOf (l : Lane) (s : State) : (s.void l).HasNoVoteOf l := by
  intro p x hx
  rw [State.voteOf_void] at hx
  obtain ⟨y, -, roll, proposals⟩ := mem_voidSlots hx
  rw [roll, proposals, LaneSet.get_remove]
  exact ⟨if_pos rfl, fun q hq => by simpa using (List.mem_filter.mp hq).2⟩

theorem State.HasNoVoteOf.void {l : Lane} {s : State} (h : s.HasNoVoteOf l) (m : Lane) : (s.void m).HasNoVoteOf l := by
  intro p x hx
  rw [State.voteOf_void] at hx
  obtain ⟨y, hy, roll, proposals⟩ := mem_voidSlots hx
  obtain ⟨offRoll, silent⟩ := h p y hy
  rw [roll, proposals, LaneSet.get_remove, offRoll, ite_self]
  exact ⟨rfl, fun q hq => silent q (List.mem_of_mem_filter hq)⟩

/-! ### What follows a change of a lane -/

/-- `t` is reached from `s` by consequences that let no lane join and make at most `k` records: a lane that is not
joined keeps its entry and its notices, one still joined in `t` has only been sent more notices, no vote comes back,
and the journal has taken the records. -/
structure State.Follows (k : Nat) (s t : State) : Prop where
  base : s.SameBase t
  apart : ∀ m, (s.laneState m).joined = false → t.lane m = s.lane m ∧ t.nu.get m = s.nu.get m
  told : ∀ m, (t.laneState m).joined = true → ∃ ns, t.nu.get m = (s.nu.get m).pushAll ns
  votes : ∀ l, s.HasNoVoteOf l → t.HasNoVoteOf l
  records : ∃ made, made.length ≤ k ∧ t.ij = s.ij.submitAll s.global.triggers s.global.postCount s.time made

theorem State.Follows.joined_before {k : Nat} {s t : State} (h : s.Follows k t) {m : Lane}
    (joined : (t.laneState m).joined = true) : (s.laneState m).joined = true := by
  by_contra apart
  rw [Bool.not_eq_true] at apart
  have same : t.laneState m = s.laneState m := congrArg LaneEntry.state (h.apart m apart).1
  rw [same, apart] at joined
  cases joined

theorem State.Follows.mono {j k : Nat} {s t : State} (h : s.Follows j t) (le : j ≤ k) : s.Follows k t :=
  { h with records := h.records.imp fun _ made => ⟨made.1.trans le, made.2⟩ }

theorem State.Follows.trans {j k : Nat} {s t u : State} (h : s.Follows j t) (g : t.Follows k u) :
    s.Follows (j + k) u where
  base := h.base.trans g.base
  apart m apart := by
    obtain ⟨entry, box⟩ := h.apart m apart
    have apart' : (t.laneState m).joined = false := by rwa [State.laneState, entry]
    obtain ⟨entry', box'⟩ := g.apart m apart'
    exact ⟨entry'.trans entry, box'.trans box⟩
  told m joined := by
    obtain ⟨ns, box⟩ := h.told m (g.joined_before joined)
    obtain ⟨ms, box'⟩ := g.told m joined
    exact ⟨ns ++ ms, by rw [box', box, NoticeBox.pushAll_append]⟩
  votes l none := g.votes l (h.votes l none)
  records := by
    obtain ⟨made, few, journal⟩ := h.records
    obtain ⟨more, few', journal'⟩ := g.records
    refine ⟨made ++ more, by rw [List.length_append]; omega, ?_⟩
    rw [journal', h.base.global, h.base.time, journal, Journal.submitAll_append]

/-- Where neither lanes, votes, notices nor journal change. -/
theorem State.Follows.of_same {s t : State} (base : s.SameBase t) (lm : t.lm = s.lm) (ve : t.ve = s.ve)
    (nu : t.nu = s.nu) (ij : t.ij = s.ij) : s.Follows 0 t where
  base := base
  apart m _ := ⟨congrArg (PerLane.get · m) lm, congrArg (PerLane.get · m) nu⟩
  told m _ := ⟨[], congrArg (PerLane.get · m) nu⟩
  votes _ none := none.of_ve ve
  records := ⟨[], le_rfl, ij⟩

theorem State.Follows.refl (s : State) : s.Follows 0 s := .of_same (.refl s) rfl rfl rfl rfl

variable (s : State)

theorem State.notify_follows (r : LaneSet) (n : Notice) : s.Follows 0 (s.notify r n) where
  base := s.notify_base r n
  apart m apart := ⟨rfl, by rw [State.get_notify, apart, Bool.and_false]; rfl⟩
  told m _ := by
    rw [State.get_notify]
    split
    · exact ⟨[n], rfl⟩
    · exact ⟨[], rfl⟩
  votes _ none := none.of_ve rfl
  records := ⟨[], le_rfl, rfl⟩

theorem State.submit_follows (sub : Option Lane) (b : RecordBody) : s.Follows 1 (s.submit sub b) := by
  obtain ⟨nu, result, boxes⟩ := s.submit_spec sub b
  rw [result]
  refine ⟨⟨rfl, rfl, rfl, rfl, rfl, rfl⟩, fun m apart => ⟨rfl, ?_⟩, fun m _ => ?_, fun _ none => none.of_ve rfl,
    [(sub, b)], le_rfl, rfl⟩
  · obtain same | ⟨joined, -⟩ := boxes m
    · exact same
    · rw [apart] at joined; cases joined
  · obtain same | ⟨-, n, sent⟩ := boxes m
    · exact ⟨[], same⟩
    · exact ⟨[n], sent⟩

/-! ### Authority, the restart collection and the safe condition -/

theorem State.changeHolder_follows (h : Option Lane) (c : List Lane) (cause : AuthCause) (l : Lane) :
    s.Follows 1 (s.changeHolder h c cause l) := by
  have changed : s.Follows 0 { s with au := s.au.change h c } := .of_same ⟨rfl, rfl, rfl, rfl, rfl, rfl⟩ rfl rfl rfl rfl
  exact (changed.trans (State.notify_follows _ _ _)).trans (State.submit_follows _ _ _)

theorem State.succeed_follows (l : Lane) : s.Follows 1 (s.succeed l) := by
  have dropped : s.Follows 0 { s with au := s.au.dropClaim l } := .of_same ⟨rfl, rfl, rfl, rfl, rfl, rfl⟩ rfl rfl rfl rfl
  have changed : ∀ h c cause, s.Follows 1 (({ s with au := s.au.dropClaim l } : State).changeHolder h c cause l) :=
    fun h c cause => dropped.trans (State.changeHolder_follows _ h c cause l)
  unfold State.succeed
  dsimp only
  split
  · split
    · exact changed _ _ _
    · split <;> exact changed _ _ _
  · exact dropped.mono (Nat.zero_le 1)

theorem State.removeVoter_follows (l : Lane) : s.Follows 0 (s.removeVoter l) :=
  .of_same ⟨rfl, rfl, rfl, rfl, rfl, rfl⟩ rfl rfl rfl rfl

theorem State.reportSafe_follows (d : SafeDirection) (sub : Option Lane) : s.Follows 1 (s.reportSafe d sub) :=
  (s.notify_follows _ _).trans (State.submit_follows _ _ _)

theorem State.reevaluate_follows (sub : Option Lane) : s.Follows 1 (s.reevaluate sub) := by
  have unchanged : s.Follows 1 s := (State.Follows.refl s).mono (Nat.zero_le 1)
  have entered : s.Follows 0 (s.setSafe true).handSafeValues := .of_same ⟨rfl, rfl, rfl, rfl, rfl, rfl⟩ rfl rfl rfl rfl
  have exited : s.Follows 0 (s.setSafe false) := .of_same ⟨rfl, rfl, rfl, rfl, rfl, rfl⟩ rfl rfl rfl rfl
  unfold State.reevaluate
  split
  · split
    · exact unchanged
    · exact entered.trans (State.reportSafe_follows _ _ _)
  · split
    · exact exited.trans (State.reportSafe_follows _ _ _)
    · exact unchanged

@[simp] theorem State.reevaluate_au (sub : Option Lane) : (s.reevaluate sub).au = s.au := by
  obtain ⟨-, -, -, au, -⟩ := s.reevaluate_spec sub
  exact au

@[simp] theorem State.reevaluate_collection (sub : Option Lane) :
    (s.reevaluate sub).sc.collection = s.sc.collection := by
  obtain ⟨-, -, -, -, -, -, collection, -⟩ := s.reevaluate_spec sub
  exact collection

theorem bestRanked_mem {ranks : PerLane Nat} {lanes : LaneSet} {m : Lane} (h : bestRanked ranks lanes = some m) :
    lanes.get m = true := by
  have start : ∀ m, (none : Option Lane) = some m → lanes.get m = true := nofun
  refine List.foldlRecOn (motive := fun best => ∀ m, best = some m → lanes.get m = true) lanes.toList _ start ?_ m h
  intro best chosen l inSet k
  have ranked : lanes.get l = true := (List.mem_filter.mp inSet).2
  cases best with
  | none => rintro ⟨⟩; exact ranked
  | some m =>
    dsimp only
    split
    · rintro ⟨⟩; exact ranked
    · exact chosen k

/-- A lane that is not MEMBER neither holds nor queues for authority once the Authority Unit is told (R99). -/
theorem State.succeed_withdraws {l : Lane} (h : s.laneState l ≠ .member) :
    (s.succeed l).au.holder ≠ some l ∧ l ∉ (s.succeed l).au.claims := by
  have dropped : l ∉ (s.au.dropClaim l).claims := by simp [AuthorityUnit.dropClaim]
  have best : ∀ m, (if s.global.autoSuccession then bestRanked s.global.ranks s.members else none) = some m → m ≠ l := by
    rintro m hm rfl
    split at hm
    · have ranked := bestRanked_mem hm
      rw [State.get_members, beq_iff_eq] at ranked
      exact h ranked
    · cases hm
  rw [State.succeed_over s l _ _ rfl rfl]
  generalize s.au.dropClaim l = a at dropped
  have changed : ∀ holder claims cause, holder ≠ some l → l ∉ claims →
      ((({ s with au := a } : State).changeHolder holder claims cause l).au.holder ≠ some l ∧
        l ∉ (({ s with au := a } : State).changeHolder holder claims cause l).au.claims) := by
    intro holder claims cause other gone
    obtain ⟨-, au, -⟩ := State.changeHolder_spec { s with au := a } holder claims cause l
    rw [au]
    exact ⟨other, gone⟩
  split
  · split
    next next rest claims =>
      rw [claims, List.mem_cons, not_or] at dropped
      exact changed _ _ _ (fun same => dropped.1 (Option.some.inj same).symm) dropped.2
    next =>
      split
      next m hm => exact changed _ _ _ (fun same => best m hm (Option.some.inj same)) List.not_mem_nil
      next => exact changed _ _ _ nofun List.not_mem_nil
  next notHolder => exact ⟨notHolder, dropped⟩

/-- No voter set is left with a removed voter (R112). -/
theorem State.removeVoter_withdraws (l : Lane) {c : Collection} (h : (s.removeVoter l).sc.collection = some c) :
    c.voters.get l = false := by
  obtain ⟨old, -, left⟩ := Option.bind_eq_some_iff.mp h
  unfold Collection.without at left
  dsimp only at left
  split at left
  · cases left
  · cases left
    rw [LaneSet.get_remove, if_pos rfl]

end Sys2Proof.Machine

/-! A change of a lane in two halves (R68): the entry, the votes, the LANE notices and the LANE record first; then
succession, the restart collection and the safe condition. -/

namespace Sys2Proof.Machine

variable (s : State)

/-! ### A change of a lane, in its two halves -/

theorem State.laneState_putLane (l m : Lane) (e : LaneEntry) :
    (s.putLane l e).laneState m = if m = l then e.state else s.laneState m := by
  rw [State.laneState, State.lane_putLane, apply_ite LaneEntry.state]
  rfl

theorem State.members_putLane (l : Lane) (e : LaneEntry) :
    (s.putLane l e).members = if e.state = .member then s.members.insert l else s.members.remove l := by
  apply PerLane.eq_of_get
  intro m
  rw [State.get_members, State.laneState_putLane]
  by_cases member : e.state = .member
  · rw [if_pos member, LaneSet.get_insert, State.get_members]
    split <;> simp [member]
  · rw [if_neg member, LaneSet.get_remove, State.get_members]
    split <;> simp [member]

/-- Steps 1 and 2 of R68: the entry of the new state, and a departing lane's votes voided. -/
def State.enterLane (l : Lane) (new : LaneState) (cause : LaneCause) (s : State) : State :=
  let s1 := s.putLane l ((s.lane l).entered s.time s.global.exclusionHold new cause)
  if (s.laneState l).joined && !new.joined then s1.void l else s1

/-- Steps 1 to 4 of R68: the entry and the votes, then the LANE notices, then the LANE record. -/
def State.announceChange (l : Lane) (new : LaneState) (cause : LaneCause) (s : State) : State :=
  ((s.enterLane l new cause).laneNotices l (s.laneState l) new cause).submit (some l)
    (.lane (s.laneState l) new cause (s.lane l).strikes)

/-- The steps of R68 behind the record: succession and the restart collection for a lane that leaves MEMBER, and the
safe condition. -/
def State.concludeChange (l : Lane) (leaves : Bool) (s : State) : State :=
  (if leaves then (s.succeed l).removeVoter l else s).reevaluate (some l)

theorem State.changeLane_eq (l : Lane) (new : LaneState) (cause : LaneCause) :
    s.changeLane l new cause =
      (s.announceChange l new cause).concludeChange l (s.laneState l == .member && new != .member) := by
  have leaves : ∀ (b : Bool) (u : State),
      (if b = true then (if b = true then u.succeed l else u).removeVoter l else (if b = true then u.succeed l else u)) =
        if b = true then (u.succeed l).removeVoter l else u := by
    intro b u
    cases b <;> rfl
  unfold State.changeLane State.concludeChange
  dsimp only
  rw [leaves]
  rfl

section
variable (l : Lane) (new : LaneState) (cause : LaneCause)

/-! ### The first half of a change -/

theorem State.enterLane_eq_or :
    s.enterLane l new cause = s.putLane l ((s.lane l).entered s.time s.global.exclusionHold new cause) ∨
    s.enterLane l new cause =
      (s.putLane l ((s.lane l).entered s.time s.global.exclusionHold new cause)).void l := by
  unfold State.enterLane
  dsimp only
  split
  · exact .inr rfl
  · exact .inl rfl

theorem State.enterLane_base : s.SameBase (s.enterLane l new cause) := by
  obtain h | h := s.enterLane_eq_or l new cause <;> (rw [h]; exact ⟨rfl, rfl, rfl, rfl, rfl, rfl⟩)

@[simp] theorem State.enterLane_nu : (s.enterLane l new cause).nu = s.nu := by
  obtain h | h := s.enterLane_eq_or l new cause <;> (rw [h]; rfl)

@[simp] theorem State.enterLane_ij : (s.enterLane l new cause).ij = s.ij := by
  obtain h | h := s.enterLane_eq_or l new cause <;> (rw [h]; rfl)

@[simp] theorem State.enterLane_au : (s.enterLane l new cause).au = s.au := by
  obtain h | h := s.enterLane_eq_or l new cause <;> (rw [h]; rfl)

@[simp] theorem State.enterLane_sc : (s.enterLane l new cause).sc = s.sc := by
  obtain h | h := s.enterLane_eq_or l new cause <;> (rw [h]; rfl)

theorem State.lane_enterLane (m : Lane) :
    (s.enterLane l new cause).lane m =
      if m = l then (s.lane l).entered s.time s.global.exclusionHold new cause else s.lane m := by
  rw [← State.lane_putLane]
  obtain h | h := s.enterLane_eq_or l new cause
  · rw [h]
  · rw [h, State.void_lane]

theorem State.laneState_enterLane (m : Lane) :
    (s.enterLane l new cause).laneState m = if m = l then new else s.laneState m := by
  rw [State.laneState, State.lane_enterLane, apply_ite LaneEntry.state, LaneEntry.entered_state]
  rfl

theorem State.members_enterLane :
    (s.enterLane l new cause).members = if new = .member then s.members.insert l else s.members.remove l := by
  have put := s.members_putLane l ((s.lane l).entered s.time s.global.exclusionHold new cause)
  rw [LaneEntry.entered_state] at put
  rw [← put]
  obtain h | h := s.enterLane_eq_or l new cause
  · rw [h]
  · rw [h, State.void_members]

theorem State.enterLane_hasNoVoteOf (departs : ((s.laneState l).joined && !new.joined) = true) :
    (s.enterLane l new cause).HasNoVoteOf l := by
  unfold State.enterLane
  dsimp only
  rw [if_pos departs]
  exact State.void_hasNoVoteOf l _

theorem State.HasNoVoteOf.enterLane {k : Lane} {s : State} (h : s.HasNoVoteOf k) :
    (s.enterLane l new cause).HasNoVoteOf k := by
  have put := h.of_ve (t := s.putLane l ((s.lane l).entered s.time s.global.exclusionHold new cause)) rfl
  obtain same | voided := s.enterLane_eq_or l new cause
  · rw [same]; exact put
  · rw [voided]; exact put.void l

/-- A lane that is PROBATION or MEMBER has the LANE notice pushed (R68 step 3); the queues emptied and the notice of an
own exclusion are those of a lane that is neither. -/
theorem State.laneNotices_box_of_joined {m : Lane} (old : LaneState) (joined : (s.laneState m).joined = true)
    (other : new.joined = false → m ≠ l) :
    (s.laneNotices l old new cause).nu.get m = (s.nu.get m).push (.lane l old new cause s.members) := by
  have sent : ∀ n, (s.notify s.joined n).nu.get m = (s.nu.get m).push n := by
    intro n
    rw [State.get_notify, State.get_joined, joined]
    rfl
  have sentBesides : m ≠ l → ∀ n, ((s.emptyNotices l).notify s.joined n).nu.get m = (s.nu.get m).push n := by
    intro ne n
    rw [State.get_notify, State.get_joined, State.emptyNotices_laneState, joined, State.emptyNotices_nu,
      PerLane.get_set_of_ne _ _ ne]
    rfl
  cases new with
  | absent => exact sent _
  | probation => exact sent _
  | member => exact sent _
  | down => exact sentBesides (other rfl) _
  | excluded => exact (PerLane.get_set_of_ne _ _ (other rfl)).trans (sentBesides (other rfl) _)

theorem State.laneNotices_box_of_apart {m : Lane} (old : LaneState) (apart : (s.laneState m).joined = false)
    (ne : m ≠ l) : (s.laneNotices l old new cause).nu.get m = s.nu.get m := by
  have kept : ∀ n, (s.notify s.joined n).nu.get m = s.nu.get m := by
    intro n
    rw [State.get_notify, apart, Bool.and_false]
    rfl
  have keptBesides : ∀ n, ((s.emptyNotices l).notify s.joined n).nu.get m = s.nu.get m := by
    intro n
    rw [State.get_notify, State.emptyNotices_laneState, apart, Bool.and_false, State.emptyNotices_nu]
    exact PerLane.get_set_of_ne _ _ ne
  cases new with
  | absent => exact kept _
  | probation => exact kept _
  | member => exact kept _
  | down => exact keptBesides _
  | excluded => exact (PerLane.get_set_of_ne _ _ ne).trans (keptBesides _)

/-- The queue of a lane that has become DOWN or EXCLUDED holds the notice of its own exclusion or nothing (R144). -/
theorem State.laneNotices_own_box (old : LaneState) (apart : (s.laneState l).joined = false)
    (departed : new = .down ∨ new = .excluded) :
    (s.laneNotices l old new cause).nu.get l =
      ⟨if new = .excluded then [.lane l old new cause s.members] else [], 0, (s.nu.get l).seq⟩ := by
  have emptied : ∀ n, ((s.emptyNotices l).notify s.joined n).nu.get l = (s.nu.get l).emptied := by
    intro n
    rw [State.get_notify, State.emptyNotices_laneState, apart, Bool.and_false]
    exact PerLane.get_set_self _ _ _
  obtain rfl | rfl := departed
  · exact emptied _
  · have room : (s.nu.get l).emptied.queue.length < 16 := Nat.zero_lt_succ 15
    change (((s.emptyNotices l).notify s.joined _).noticeTo l _).nu.get l = _
    rw [State.noticeTo_nu, PerLane.get_set_self, emptied, NoticeBox.push_of_room _ room]
    rfl

end

end Sys2Proof.Machine

/-! What a changed and a moved lane leaves, and that its LANE notice and record are the first told (R68, R75). -/

namespace Sys2Proof.Machine

variable (s : State)

section
variable (l : Lane) (new : LaneState) (cause : LaneCause)

/-- The record of a change stands behind its entry, votes and notices, which it leaves. -/
theorem State.announceChange_follows :
    ((s.enterLane l new cause).laneNotices l (s.laneState l) new cause).Follows 1 (s.announceChange l new cause) :=
  State.submit_follows _ _ _

theorem State.announceChange_base : s.SameBase (s.announceChange l new cause) := by
  obtain ⟨notices, -⟩ := (s.enterLane l new cause).laneNotices_spec l (s.laneState l) new cause
  exact (s.enterLane_base l new cause).trans (notices.trans (State.submit_base _ _ _))

theorem State.lane_announceChange (m : Lane) :
    (s.announceChange l new cause).lane m =
      if m = l then (s.lane l).entered s.time s.global.exclusionHold new cause else s.lane m := by
  obtain ⟨-, lm, -⟩ := (s.enterLane l new cause).laneNotices_spec l (s.laneState l) new cause
  rw [State.announceChange, State.submit_lane, ← State.lane_enterLane]
  exact congrArg (PerLane.get · m) lm

theorem State.laneState_announceChange (m : Lane) :
    (s.announceChange l new cause).laneState m = if m = l then new else s.laneState m := by
  rw [State.laneState, State.lane_announceChange, apply_ite LaneEntry.state, LaneEntry.entered_state]
  rfl

theorem State.announceChange_au : (s.announceChange l new cause).au = s.au := by
  obtain ⟨-, -, -, au, -⟩ := (s.enterLane l new cause).laneNotices_spec l (s.laneState l) new cause
  rw [State.announceChange, State.submit_au, au, State.enterLane_au]

theorem State.announceChange_sc : (s.announceChange l new cause).sc = s.sc := by
  obtain ⟨-, -, -, -, sc, -⟩ := (s.enterLane l new cause).laneNotices_spec l (s.laneState l) new cause
  rw [State.announceChange, State.submit_sc, sc, State.enterLane_sc]

theorem State.announceChange_ij :
    (s.announceChange l new cause).ij = s.ij.submitAll s.global.triggers s.global.postCount s.time
      [(some l, .lane (s.laneState l) new cause (s.lane l).strikes)] := by
  obtain ⟨base, -, -, -, -, -, ij⟩ := (s.enterLane l new cause).laneNotices_spec l (s.laneState l) new cause
  have same := (s.enterLane_base l new cause).trans base
  rw [State.announceChange, State.submit_ij, ij, State.enterLane_ij, same.global, same.time]
  rfl

theorem State.announceChange_hasNoVoteOf (departs : ((s.laneState l).joined && !new.joined) = true) :
    (s.announceChange l new cause).HasNoVoteOf l := by
  obtain ⟨-, -, ve, -⟩ := (s.enterLane l new cause).laneNotices_spec l (s.laneState l) new cause
  exact (s.announceChange_follows l new cause).votes l ((s.enterLane_hasNoVoteOf l new cause departs).of_ve ve)

theorem State.HasNoVoteOf.announceChange {k : Lane} {s : State} (h : s.HasNoVoteOf k) :
    (s.announceChange l new cause).HasNoVoteOf k := by
  obtain ⟨-, -, ve, -⟩ := (s.enterLane l new cause).laneNotices_spec l (s.laneState l) new cause
  exact (s.announceChange_follows l new cause).votes k ((h.enterLane l new cause).of_ve ve)

theorem State.laneState_noticed (m : Lane) :
    ((s.enterLane l new cause).laneNotices l (s.laneState l) new cause).laneState m =
      if m = l then new else s.laneState m := by
  obtain ⟨-, lm, -⟩ := (s.enterLane l new cause).laneNotices_spec l (s.laneState l) new cause
  rw [← State.laneState_enterLane s l new cause]
  exact congrArg (fun v => (PerLane.get v m).state) lm

/-- The LANE notice is the first that a lane joined behind the change is sent (R68 step 3). -/
theorem State.announceChange_told {m : Lane} (joined : ((s.announceChange l new cause).laneState m).joined = true) :
    ∃ ns, (s.announceChange l new cause).nu.get m =
      (s.nu.get m).pushAll (.lane l (s.laneState l) new cause
        (if new = .member then s.members.insert l else s.members.remove l) :: ns) := by
  have other : new.joined = false → m ≠ l := by
    rintro apart rfl
    rw [State.laneState_announceChange, if_pos rfl, apart] at joined
    cases joined
  obtain ⟨ns, sent⟩ := (s.announceChange_follows l new cause).told m joined
  have before : ((s.enterLane l new cause).laneState m).joined = true := by
    rwa [State.laneState_enterLane, ← State.laneState_announceChange s l new cause]
  refine ⟨ns, ?_⟩
  rw [sent, State.laneNotices_box_of_joined _ l new cause _ before other, State.enterLane_nu, State.members_enterLane,
    NoticeBox.pushAll_cons]

theorem State.announceChange_box_of_apart {m : Lane} (apart : (s.laneState m).joined = false) (ne : m ≠ l) :
    (s.announceChange l new cause).nu.get m = s.nu.get m := by
  have noticed : (((s.enterLane l new cause).laneNotices l (s.laneState l) new cause).laneState m).joined = false := by
    rwa [State.laneState_noticed, if_neg ne]
  have before : ((s.enterLane l new cause).laneState m).joined = false := by
    rwa [State.laneState_enterLane, if_neg ne]
  obtain ⟨-, box⟩ := (s.announceChange_follows l new cause).apart m noticed
  rw [box, State.laneNotices_box_of_apart _ l new cause _ before ne, State.enterLane_nu]

theorem State.announceChange_own_box (departed : new = .down ∨ new = .excluded) :
    (s.announceChange l new cause).nu.get l =
      ⟨if new = .excluded then [.lane l (s.laneState l) new cause (s.members.remove l)] else [], 0,
        (s.nu.get l).seq⟩ := by
  have apart : new.joined = false := by obtain rfl | rfl := departed <;> rfl
  have notMember : new ≠ .member := by obtain rfl | rfl := departed <;> nofun
  have noticed : (((s.enterLane l new cause).laneNotices l (s.laneState l) new cause).laneState l).joined = false := by
    rwa [State.laneState_noticed, if_pos rfl]
  have before : ((s.enterLane l new cause).laneState l).joined = false := by
    rwa [State.laneState_enterLane, if_pos rfl]
  obtain ⟨-, box⟩ := (s.announceChange_follows l new cause).apart l noticed
  rw [box, State.laneNotices_own_box _ l new cause _ before departed, State.enterLane_nu, State.members_enterLane,
    if_neg notMember]

/-! ### The second half of a change -/

theorem State.concludeChange_follows (leaves : Bool) : s.Follows 2 (s.concludeChange l leaves) := by
  cases leaves with
  | false => exact (s.reevaluate_follows (some l)).mono (Nat.le_succ 1)
  | true => exact ((s.succeed_follows l).trans (State.removeVoter_follows _ l)).trans (State.reevaluate_follows _ _)

theorem State.changeLane_follows : (s.announceChange l new cause).Follows 2 (s.changeLane l new cause) := by
  rw [State.changeLane_eq]
  exact State.concludeChange_follows _ _ _

/-- A lane that leaves MEMBER neither holds nor queues for authority behind the change, and votes for no restart. -/
theorem State.changeLane_withdraws (was : s.laneState l = .member) (leaves : new ≠ .member) :
    (s.changeLane l new cause).au.holder ≠ some l ∧ l ∉ (s.changeLane l new cause).au.claims ∧
      ∀ c, (s.changeLane l new cause).sc.collection = some c → c.voters.get l = false := by
  have left : (s.laneState l == .member && new != .member) = true := by simp [was, leaves]
  have gone : (s.announceChange l new cause).laneState l ≠ .member := by
    rwa [State.laneState_announceChange, if_pos rfl]
  obtain ⟨holder, claims⟩ := State.succeed_withdraws _ gone
  rw [State.changeLane_eq, left, State.concludeChange, if_pos rfl, State.reevaluate_au, State.removeVoter_au,
    State.reevaluate_collection]
  exact ⟨holder, claims, fun _ => State.removeVoter_withdraws _ l⟩

/-- A change of a lane that is not MEMBER leaves authority and the restart collection. -/
theorem State.changeLane_keeps_authority (was : s.laneState l ≠ .member) :
    (s.changeLane l new cause).au = s.au ∧ (s.changeLane l new cause).sc.collection = s.sc.collection := by
  have stays : (s.laneState l == .member && new != .member) = false := by simp [was]
  rw [State.changeLane_eq, stays, State.concludeChange, if_neg Bool.false_ne_true, State.reevaluate_au,
    State.reevaluate_collection, State.announceChange_au, State.announceChange_sc]
  exact ⟨rfl, rfl⟩

end

/-! ### The demotions behind the last MEMBER's departure -/

/-- Every PROBATION lane returned to DOWN in the order A, B, C (R75). -/
def State.demoteAll (s : State) : State := ((s.demoteProbation .a).demoteProbation .b).demoteProbation .c

theorem State.moveLane_eq_or (l : Lane) (new : LaneState) (cause : LaneCause) :
    s.moveLane l new cause = s.changeLane l new cause ∨
      s.moveLane l new cause = (s.changeLane l new cause).demoteAll := by
  unfold State.moveLane
  dsimp only
  split
  · exact .inr rfl
  · exact .inl rfl

theorem State.demoteProbation_follows (l : Lane) : s.Follows 3 (s.demoteProbation l) := by
  unfold State.demoteProbation
  split
  next probation =>
    have other : ∀ m, (s.laneState m).joined = false → m ≠ l := by
      rintro m apart rfl
      rw [probation] at apart
      cases apart
    have announced : s.Follows 1 (s.announceChange l .down .noMember) :=
      { base := s.announceChange_base l _ _
        apart := fun m apart =>
          ⟨by rw [State.lane_announceChange, if_neg (other m apart)],
            s.announceChange_box_of_apart l _ _ apart (other m apart)⟩
        told := fun m joined => (s.announceChange_told l _ _ joined).imp' (_ :: ·) fun _ => id
        votes := fun _ none => none.announceChange l _ _
        records := ⟨_, le_rfl, s.announceChange_ij l _ _⟩ }
    exact announced.trans (s.changeLane_follows l _ _)
  next => exact (State.Follows.refl s).mono (Nat.zero_le 3)

theorem State.demoteProbation_keeps_authority (l : Lane) :
    (s.demoteProbation l).au = s.au ∧ (s.demoteProbation l).sc.collection = s.sc.collection := by
  unfold State.demoteProbation
  split
  next probation => exact s.changeLane_keeps_authority l _ _ (by rw [probation]; nofun)
  next => exact ⟨rfl, rfl⟩

theorem State.demoteAll_follows : s.Follows 9 s.demoteAll :=
  ((s.demoteProbation_follows .a).trans (State.demoteProbation_follows _ .b)).trans (State.demoteProbation_follows _ .c)

theorem State.demoteAll_keeps_authority :
    s.demoteAll.au = s.au ∧ s.demoteAll.sc.collection = s.sc.collection := by
  obtain ⟨auA, collectionA⟩ := s.demoteProbation_keeps_authority .a
  obtain ⟨auB, collectionB⟩ := (s.demoteProbation .a).demoteProbation_keeps_authority .b
  obtain ⟨auC, collectionC⟩ := ((s.demoteProbation .a).demoteProbation .b).demoteProbation_keeps_authority .c
  exact ⟨auC.trans (auB.trans auA), collectionC.trans (collectionB.trans collectionA)⟩

/-! ### What a moved lane leaves and what its change tells -/

section
variable (l : Lane) (new : LaneState) (cause : LaneCause)

theorem State.moveLane_follows : (s.announceChange l new cause).Follows 11 (s.moveLane l new cause) := by
  have changed := s.changeLane_follows l new cause
  obtain same | demoted := s.moveLane_eq_or l new cause
  · rw [same]; exact changed.mono (Nat.le_add_right 2 9)
  · rw [demoted]; exact changed.trans (State.demoteAll_follows _)

theorem State.moveLane_withdraws (was : s.laneState l = .member) (leaves : new ≠ .member) :
    (s.moveLane l new cause).au.holder ≠ some l ∧ l ∉ (s.moveLane l new cause).au.claims ∧
      ∀ c, (s.moveLane l new cause).sc.collection = some c → c.voters.get l = false := by
  have changed := s.changeLane_withdraws l new cause was leaves
  obtain same | demoted := s.moveLane_eq_or l new cause
  · rwa [same]
  · obtain ⟨au, collection⟩ := (s.changeLane l new cause).demoteAll_keeps_authority
    rwa [demoted, au, collection]

/-- Every change of a lane makes its LANE notice and LANE record first (R68 steps 3 and 4). -/
theorem State.moveLane_hasTold :
    s.HasTold (.lane l (s.laneState l) new cause (if new = .member then s.members.insert l else s.members.remove l))
      (some l) (.lane (s.laneState l) new cause (s.lane l).strikes) (s.moveLane l new cause) := by
  have rest := s.moveLane_follows l new cause
  refine State.hasTold (fun m joined => ?boxes) ?records
  case boxes =>
    obtain ⟨ns, announced⟩ := s.announceChange_told l new cause (rest.joined_before joined)
    obtain ⟨ms, later⟩ := rest.told m joined
    exact ⟨ns ++ ms, by rw [later, announced, ← NoticeBox.pushAll_append]; rfl⟩
  case records =>
    obtain ⟨made, few, journal⟩ := rest.records
    have base := s.announceChange_base l new cause
    refine ⟨made, by omega, ?_⟩
    rw [journal, base.global, base.time, State.announceChange_ij, ← Journal.submitAll_append]
    rfl

theorem LaneEntry.entered_of_departed (now : Time) (hold : Nat) (e : LaneEntry)
    (departed : new = .down ∨ new = .excluded) :
    e.entered now hold new cause =
      { e with
        state := new, lastCause := cause, strikes := 0, cleanRun := 0, credit := 0, beatDeadline := none
        holdDeadline := if new = .excluded then some (now + BitVec.ofNat 32 (hold * 100)) else none } := by
  obtain rfl | rfl := departed <;> rfl

/-- A PROBATION or MEMBER lane that goes DOWN or EXCLUDED loses what a departure takes (R68). -/
theorem State.moveLane_hasLeft (was : (s.laneState l).joined = true) (departed : new = .down ∨ new = .excluded) :
    s.HasLeft l new cause (s.moveLane l new cause) := by
  have rest := s.moveLane_follows l new cause
  have apart : new.joined = false := by obtain rfl | rfl := departed <;> rfl
  have notMember : new ≠ .member := by obtain rfl | rfl := departed <;> nofun
  have announcedApart : ((s.announceChange l new cause).laneState l).joined = false := by
    rwa [State.laneState_announceChange, if_pos rfl]
  obtain ⟨entry, box⟩ := rest.apart l announcedApart
  rw [State.lane_announceChange, if_pos rfl, LaneEntry.entered_of_departed new cause _ _ _ departed] at entry
  rw [State.announceChange_own_box s l new cause departed] at box
  refine ⟨?entry, rest.votes l (s.announceChange_hasNoVoteOf l new cause (by rw [was, apart]; rfl)),
    fun member => s.moveLane_withdraws l new cause member notMember, ?queue, ?lost, ?seq⟩
  case entry => rw [State.laneState, entry]; exact ⟨rfl, rfl, rfl, rfl, rfl, rfl, rfl⟩
  case queue => rw [box]
  case lost => rw [box]
  case seq => rw [box]

end

end Sys2Proof.Machine

/-! The verdicts of a closing taken by a lane (R73, R76 to R78, Table 4.5). -/

namespace Sys2Proof.Machine

variable (s : State) (l : Lane)

/-! ### A lane moved with counts of its own -/

theorem State.members_remove_putLane (e : LaneEntry) : (s.putLane l e).members.remove l = s.members.remove l := by
  rw [State.members_putLane]
  split <;> exact PerLane.set_set _ _ _ _

theorem State.members_insert_putLane (e : LaneEntry) : (s.putLane l e).members.insert l = s.members.insert l := by
  rw [State.members_putLane]
  split <;> exact PerLane.set_set _ _ _ _

section
variable {s l} {e : LaneEntry} (same : e.state = s.laneState l)
include same

theorem State.laneState_putLane_of_same : (s.putLane l e).laneState l = s.laneState l := by
  rw [State.laneState_putLane, if_pos rfl, same]

/-- The notice and the record of a change that begins with the lane's counts replaced: the record shows the strikes as
counted then (R76). -/
theorem State.moveLane_putLane_hasTold (new : LaneState) (cause : LaneCause) :
    s.HasTold (.lane l (s.laneState l) new cause (if new = .member then s.members.insert l else s.members.remove l))
      (some l) (.lane (s.laneState l) new cause e.strikes) ((s.putLane l e).moveLane l new cause) := by
  have told := (s.putLane l e).moveLane_hasTold l new cause
  rw [State.laneState_putLane_of_same same, State.members_insert_putLane, State.members_remove_putLane,
    State.lane_putLane_self] at told
  exact told

/-- What a departing lane loses does not depend on the counts it had (R68). -/
theorem State.moveLane_putLane_hasLeft {new : LaneState} (cause : LaneCause) (was : (s.laneState l).joined = true)
    (departed : new = .down ∨ new = .excluded) :
    s.HasLeft l new cause ((s.putLane l e).moveLane l new cause) := by
  have kept := State.laneState_putLane_of_same same
  have left := (s.putLane l e).moveLane_hasLeft l new cause (by rwa [kept]) departed
  rw [State.HasLeft, kept, State.members_remove_putLane] at left
  exact left

end

/-! ### Departures and promotions -/

/-- A departure for another cause than a strike (R82, R84, R85, R78). -/
theorem State.moveLane_hasDeparted {new : LaneState} {cause : LaneCause} (was : (s.laneState l).joined = true)
    (departed : new = .down ∨ new = .excluded) (other : ¬ (cause = .miscompare ∨ cause = .missed)) :
    s.HasDeparted l new cause (s.moveLane l new cause) := by
  have notMember : new ≠ .member := by obtain rfl | rfl := departed <;> nofun
  have told := s.moveLane_hasTold l new cause
  rw [if_neg notMember] at told
  refine ⟨s.moveLane_hasLeft l new cause was departed, ?_⟩
  rw [if_neg other]
  exact told

theorem State.strike_of_below {cause : LaneCause} (below : (s.lane l).strikes + 1 ≠ s.global.strikeLimit) :
    s.strike l cause = s.putLane l { s.lane l with strikes := (s.lane l).strikes + 1, cleanRun := 0 } :=
  if_neg below

/-- The strike that reaches the limit excludes the lane with its own cause (R76). -/
theorem State.strike_hasDeparted {cause : LaneCause} (member : s.laneState l = .member)
    (limit : (s.lane l).strikes + 1 = s.global.strikeLimit) (own : cause = .miscompare ∨ cause = .missed) :
    s.HasDeparted l .excluded cause (s.strike l cause) := by
  have struck : s.strike l cause =
      (s.putLane l { s.lane l with strikes := (s.lane l).strikes + 1, cleanRun := 0 }).moveLane l .excluded cause :=
    if_pos limit
  generalize counted : ({ s.lane l with strikes := (s.lane l).strikes + 1, cleanRun := 0 } : LaneEntry) = e at struck
  have same : e.state = s.laneState l := by rw [← counted]; rfl
  have strikes : e.strikes = (s.lane l).strikes + 1 := by rw [← counted]
  rw [struck]
  refine ⟨State.moveLane_putLane_hasLeft same cause (by rw [member]; rfl) (.inr rfl), ?_⟩
  rw [if_pos own, ← strikes]
  exact State.moveLane_putLane_hasTold same .excluded cause

theorem State.cleanVote_eq :
    s.cleanVote l = s.putLane l
      (if (s.lane l).cleanRun + 1 = s.global.decayInterval then
        { s.lane l with cleanRun := 0, strikes := (s.lane l).strikes - 1 }
      else { s.lane l with cleanRun := (s.lane l).cleanRun + 1 }) :=
  (apply_ite (s.putLane l) _ _ _).symm

theorem State.creditLane_of_below (below : (s.lane l).credit + 1 ≠ s.global.probationLength) :
    s.creditLane l = s.putLane l { s.lane l with credit := (s.lane l).credit + 1 } :=
  if_neg below

/-- A lane that is not MEMBER is moved without a demotion of others (R75). -/
theorem State.moveLane_of_not_member (new : LaneState) (cause : LaneCause) (was : s.laneState l ≠ .member) :
    s.moveLane l new cause = s.changeLane l new cause :=
  if_neg fun demotes => was demotes.1

/-- The credit that reaches the probation length makes the lane MEMBER (R73, R78). -/
theorem State.creditLane_promotes (probation : s.laneState l = .probation)
    (passed : (s.lane l).credit + 1 = s.global.probationLength) :
    (s.creditLane l).lane l =
        { s.lane l with state := .member, credit := 0, holdDeadline := none, lastCause := .probationPassed } ∧
      (s.creditLane l).ve = s.ve ∧
      s.HasTold (.lane l .probation .member .probationPassed (s.members.insert l)) (some l)
        (.lane .probation .member .probationPassed (s.lane l).strikes) (s.creditLane l) := by
  have promoted : s.creditLane l =
      (s.putLane l { s.lane l with credit := 0 }).moveLane l .member .probationPassed := if_pos passed
  generalize emptied : ({ s.lane l with credit := 0 } : LaneEntry) = e at promoted
  have same : e.state = s.laneState l := by rw [← emptied]; rfl
  have was : (s.putLane l e).laneState l = .probation := (State.laneState_putLane_of_same same).trans probation
  have told := State.moveLane_putLane_hasTold same .member .probationPassed
  rw [if_pos rfl, probation, ← promoted] at told
  have strikes : e.strikes = (s.lane l).strikes := by rw [← emptied]
  rw [strikes] at told
  rw [State.moveLane_of_not_member _ l _ _ (by rw [was]; nofun)] at promoted
  obtain ⟨-, -, ve⟩ := (s.putLane l e).changeLane_spec l .member .probationPassed
  refine ⟨?entry, ?votes, told⟩
  case entry => rw [promoted, State.lane_changeLane, if_pos rfl, State.lane_putLane_self, ← emptied]; rfl
  case votes => rw [promoted, ve, was]; rfl

/-! ### Verdicts by the lane's state (Table 4.5) -/

theorem State.takeVerdict_of_not_joined (v : Option Verdict) (apart : (s.laneState l).joined = false) :
    s.takeVerdict l v = s := by
  unfold State.takeVerdict
  cases h : s.laneState l with
  | absent => rfl
  | down => rfl
  | excluded => rfl
  | probation => rw [h] at apart; cases apart
  | member => rw [h] at apart; cases apart

theorem State.takeVerdict_of_member (member : s.laneState l = .member) :
    s.takeVerdict l (some .strikeMiscompare) = s.strike l .miscompare ∧
    s.takeVerdict l (some .strikeMissed) = s.strike l .missed ∧
    s.takeVerdict l (some .cleanVote) = s.cleanVote l ∧
    s.takeVerdict l (some .probationCredit) = s ∧ s.takeVerdict l (some .probationFailure) = s := by
  unfold State.takeVerdict
  rw [member]
  exact ⟨rfl, rfl, rfl, rfl, rfl⟩

theorem State.takeVerdict_of_probation (probation : s.laneState l = .probation) :
    s.takeVerdict l (some .probationCredit) = s.creditLane l ∧
    s.takeVerdict l (some .probationFailure) = s.moveLane l .down .probationFailed ∧
    s.takeVerdict l (some .strikeMiscompare) = s ∧ s.takeVerdict l (some .strikeMissed) = s ∧
    s.takeVerdict l (some .cleanVote) = s := by
  unfold State.takeVerdict
  rw [probation]
  exact ⟨rfl, rfl, rfl, rfl, rfl⟩

/-! ### The obligation -/

/-- Settles O27: by the lane's state each verdict is a strike, a clean vote, a credit, a failed probation or nothing;
the strike at the limit and the failed probation are departures, the credit at the probation length a promotion. -/
theorem verdictsTaken : Obligations.VerdictsTaken := by
  intro l s
  refine ⟨fun v => s.takeVerdict_of_not_joined l v, fun member => ?member, fun probation => ?probation⟩
  case member =>
    obtain ⟨miscompare, missed, clean, credit, failure⟩ := s.takeVerdict_of_member l member
    refine ⟨credit, failure, clean.trans (s.cleanVote_eq l), fun v cause strike => ?strike⟩
    have taken : s.takeVerdict l (some v) = s.strike l cause ∧ (cause = .miscompare ∨ cause = .missed) := by
      simp only [List.mem_cons, Prod.mk.injEq, List.not_mem_nil, or_false] at strike
      obtain ⟨rfl, rfl⟩ | ⟨rfl, rfl⟩ := strike
      · exact ⟨miscompare, .inl rfl⟩
      · exact ⟨missed, .inr rfl⟩
    obtain ⟨struck, own⟩ := taken
    rw [struck]
    exact ⟨s.strike_of_below l, fun limit => s.strike_hasDeparted l member limit own⟩
  case probation =>
    obtain ⟨credit, failure, miscompare, missed, clean⟩ := s.takeVerdict_of_probation l probation
    rw [credit, failure]
    exact ⟨miscompare, missed, clean, s.creditLane_of_below l, s.creditLane_promotes l probation,
      s.moveLane_hasDeparted l (by rw [probation]; rfl) (.inl rfl) (by decide)⟩

end Sys2Proof.Machine

/-! The dispatch of the head of the apply queue (R121, R122): the search for a free tag, and the dispatch itself. -/

namespace Sys2Proof.Machine

/-! ### The tag search -/

/-- The candidate that the search from tag counter `t` looks at after `j` refused ones (R122 step 2). -/
abbrev tagAfter (t : Byte) (j : Nat) : Byte := t + 1 + BitVec.ofNat 8 j

theorem tagAfter_zero (t : Byte) : tagAfter t 0 = t + 1 := BitVec.add_zero _

/-- The search from the next tag looks at the same candidates, one try earlier. -/
theorem tagAfter_succ (t : Byte) (j : Nat) : tagAfter t (j + 1) = tagAfter (t + 1) j := by
  have carry : BitVec.ofNat 8 (j + 1) = BitVec.ofNat 8 j + 1 := BitVec.ofNat_add j 1
  rw [tagAfter, tagAfter, carry]
  ac_rfl

/-- Fewer than 256 candidates are distinct tags. -/
theorem tagAfter_injective {t : Byte} {i j : Nat} (hi : i < 256) (hj : j < 256) (same : tagAfter t i = tagAfter t j) :
    i = j := by
  have offsets : BitVec.ofNat 8 i = BitVec.ofNat 8 j := BitVec.add_right_inj (t + 1) |>.mp same
  simpa [Nat.mod_eq_of_lt hi, Nat.mod_eq_of_lt hj] using congrArg BitVec.toNat offsets

theorem freeTag_succ_of_free {echoes : List EchoEntry} {t : Byte} (n : Nat) (free : ∀ e ∈ echoes, e.tag ≠ t + 1) :
    freeTag echoes (n + 1) t = t + 1 := by
  simpa [freeTag] using fun e he same => absurd same (free e he)

theorem freeTag_succ_of_held {echoes : List EchoEntry} {t : Byte} (n : Nat) (held : ∃ e ∈ echoes, e.tag = t + 1) :
    freeTag echoes (n + 1) t = freeTag echoes n (t + 1) := by
  simpa [freeTag] using fun free => absurd held (by simpa using free)

/-- The search answers the first free candidate, where that is among its tries. -/
theorem freeTag_eq_of_first {echoes : List EchoEntry} {t : Byte} {n j : Nat} (within : j < n)
    (held : ∀ i < j, ∃ e ∈ echoes, e.tag = tagAfter t i) (free : ∀ e ∈ echoes, e.tag ≠ tagAfter t j) :
    freeTag echoes n t = tagAfter t j := by
  induction j generalizing n t with
  | zero =>
    obtain ⟨n, rfl⟩ := Nat.exists_eq_succ_of_ne_zero (Nat.ne_zero_of_lt within)
    rw [tagAfter_zero] at free ⊢
    exact freeTag_succ_of_free n free
  | succ j ih =>
    obtain ⟨n, rfl⟩ := Nat.exists_eq_succ_of_ne_zero (Nat.ne_zero_of_lt within)
    have first_held : ∃ e ∈ echoes, e.tag = t + 1 := tagAfter_zero t ▸ held 0 j.succ_pos
    rw [freeTag_succ_of_held n first_held, tagAfter_succ]
    refine ih (Nat.lt_of_succ_lt_succ within) (fun i hi => ?_) (tagAfter_succ t j ▸ free)
    exact tagAfter_succ t i ▸ held (i + 1) (Nat.succ_lt_succ hi)

/-- Pigeonhole: fewer entries than candidates leave a candidate free (R122). -/
theorem exists_free_tagAfter {echoes : List EchoEntry} {n : Nat} (t : Byte) (room : echoes.length < n)
    (few : n ≤ 256) : ∃ j < n, ∀ e ∈ echoes, e.tag ≠ tagAfter t j := by
  by_contra none_free
  push Not at none_free
  have distinct : Set.InjOn (tagAfter t) (Finset.range n) := fun i hi j hj =>
    tagAfter_injective ((Finset.mem_range.mp hi).trans_le few) ((Finset.mem_range.mp hj).trans_le few)
  have covered : (Finset.range n).image (tagAfter t) ⊆ (echoes.map EchoEntry.tag).toFinset := by
    intro tag candidate
    obtain ⟨j, hj, rfl⟩ := Finset.mem_image.mp candidate
    simpa using none_free j (Finset.mem_range.mp hj)
  have crowded : n ≤ echoes.length :=
    calc n = ((Finset.range n).image (tagAfter t)).card := by
          rw [Finset.card_image_of_injOn distinct, Finset.card_range]
      _ ≤ (echoes.map EchoEntry.tag).toFinset.card := Finset.card_le_card covered
      _ ≤ (echoes.map EchoEntry.tag).length := List.toFinset_card_le _
      _ = echoes.length := List.length_map _
  exact absurd room crowded.not_gt

/-- With room in the echo table the next tag is the first free candidate, within 8 tries (R122 step 2). -/
theorem DriveUnit.nextTag_isFirst (d : DriveUnit) (room : d.echoes.length < 8) :
    ∃ j < 8, d.nextTag = tagAfter d.tagCounter j ∧ (∀ e ∈ d.echoes, e.tag ≠ tagAfter d.tagCounter j) ∧
      ∀ i < j, ∃ e ∈ d.echoes, e.tag = tagAfter d.tagCounter i := by
  have some_free := exists_free_tagAfter d.tagCounter room (by decide)
  obtain ⟨within, free⟩ := Nat.find_spec some_free
  have held : ∀ i < Nat.find some_free, ∃ e ∈ d.echoes, e.tag = tagAfter d.tagCounter i := fun i hi => by
    simpa [hi.trans within] using Nat.find_min some_free hi
  exact ⟨Nat.find some_free, within, freeTag_eq_of_first within held free, free, held⟩

/-! ### The dispatch -/

theorem LinkUnit.mayStart_iff (u : LinkUnit) :
    u.mayStart = true ↔ u.state = .run ∧ 1 ≤ u.credit ∧ u.sending = none := by
  simp [LinkUnit.mayStart, and_assoc]

/-- R121's conditions, all of them. -/
theorem State.mayDispatch_iff (s : State) :
    s.mayDispatch = true ↔ s.du.queue ≠ [] ∧ (s.link .dl).mayStart = true ∧ s.du.echoes.length < 8 := by
  simp [State.mayDispatch, and_assoc]

theorem State.whenPowered_of_high {s : State} (f : State → State) (high : s.resetN = .high) :
    s.whenPowered f = .next (f s) := by
  rw [State.whenPowered, if_pos high]

theorem exec_dispatch_of_mayDispatch {s : State} {p : Fin 64} {rest : List (Fin 64)} (high : s.resetN = .high)
    (head : s.du.queue = p :: rest) (may : s.mayDispatch = true) : exec .dispatch s = .next (s.dispatchPoint p) := by
  have dispatched : s.dispatchHead = s.dispatchPoint p := by simp [State.dispatchHead, head, may]
  calc exec .dispatch s = s.whenPowered State.dispatchHead := rfl
    _ = .next s.dispatchHead := State.whenPowered_of_high _ high
    _ = .next (s.dispatchPoint p) := by rw [dispatched]

/-! ### The obligation -/

/-- Settles O44: the dispatched point takes `nextTag`, the first of 8 distinct candidates that at most 7 entries can
hold. -/
theorem dispatchSendsTheHead : Obligations.DispatchSendsTheHead := by
  intro s p rest high head run credit idle room
  have may : s.mayDispatch = true :=
    s.mayDispatch_iff.mpr ⟨by simp [head], (s.link .dl).mayStart_iff.mpr ⟨run, credit, idle⟩, room⟩
  obtain ⟨tries, within, tag, free, held⟩ := s.du.nextTag_isFirst room
  refine ⟨tries, within, free, held, ?sent⟩
  rw [exec_dispatch_of_mayDispatch high head may, State.dispatchPoint, DriveUnit.dispatchHead, tag, head]
  rfl

end Sys2Proof.Machine

/-! Numbers and configuration records as bytes (R167, R184, R188, Table 11.10): what is written is read back, a record in
range reads back as written, and only the canonical bytes of a record in range are read. -/

namespace Sys2Proof.Machine

/-! ### Numbers of several bytes -/

theorem getLsbD_from16 (hi lo : Byte) (i : Nat) :
    (from16 hi lo).getLsbD i = if i < 8 then lo.getLsbD i else hi.getLsbD (i - 8) := BitVec.getLsbD_append

theorem be16_from16 (hi lo : Byte) : be16 (from16 hi lo) = [hi, lo] := by
  have high : (from16 hi lo).extractLsb' 8 8 = hi := by
    ext i within
    simp [BitVec.getElem_extractLsb', getLsbD_from16, BitVec.getLsbD_eq_getElem within]
  have low : (from16 hi lo).extractLsb' 0 8 = lo := by
    ext i within
    simp [BitVec.getElem_extractLsb', getLsbD_from16, within]
  rw [be16, high, low]

theorem from16_extract (x : BitVec 16) : from16 (x.extractLsb' 8 8) (x.extractLsb' 0 8) = x := by
  refine BitVec.eq_of_getLsbD_eq fun i within => ?_
  rw [getLsbD_from16]
  split
  next low => simp [low]
  next high => simp [show i - 8 < 8 by omega, Nat.add_sub_cancel' (Nat.le_of_not_lt high)]

theorem getLsbD_from32 (b3 b2 b1 b0 : Byte) (i : Nat) :
    (from32 b3 b2 b1 b0).getLsbD i =
      if i < 8 then b0.getLsbD i else if i < 16 then b1.getLsbD (i - 8) else if i < 24 then b2.getLsbD (i - 16) else
        b3.getLsbD (i - 24) := by
  have outer : (from32 b3 b2 b1 b0).getLsbD i = if i < 8 then b0.getLsbD i else (b3 ++ b2 ++ b1).getLsbD (i - 8) :=
    BitVec.getLsbD_append
  have middle : (b3 ++ b2 ++ b1).getLsbD (i - 8) =
    if i - 8 < 8 then b1.getLsbD (i - 8) else (b3 ++ b2).getLsbD (i - 8 - 8) := BitVec.getLsbD_append
  have inner : (b3 ++ b2).getLsbD (i - 8 - 8) =
    if i - 8 - 8 < 8 then b2.getLsbD (i - 8 - 8) else b3.getLsbD (i - 8 - 8 - 8) := BitVec.getLsbD_append
  rw [outer, middle, inner, Nat.sub_sub, Nat.sub_sub]
  simp only [show i - 8 < 8 ↔ i < 16 by omega, show i - (8 + 8) < 8 ↔ i < 24 by omega, Nat.reduceAdd]

theorem from32_extract (x : BitVec 32) :
    from32 (x.extractLsb' 24 8) (x.extractLsb' 16 8) (x.extractLsb' 8 8) (x.extractLsb' 0 8) = x := by
  refine BitVec.eq_of_getLsbD_eq fun i within => ?_
  rw [getLsbD_from32]
  split_ifs with first second third
  · simp [first]
  · simp [show i - 8 < 8 by omega, Nat.add_sub_cancel' (Nat.le_of_not_lt first)]
  · simp [show i - 16 < 8 by omega, Nat.add_sub_cancel' (Nat.le_of_not_lt second)]
  · simp [show i - 24 < 8 by omega, Nat.add_sub_cancel' (Nat.le_of_not_lt third)]

@[simp] theorem readEpoch_be16 (e : Serial) : readEpoch (be16 e) = some e := congrArg some (from16_extract e)

@[simp] theorem readDigest_be32 (d : Word32) : readDigest (be32 d) = some d := congrArg some (from32_extract d)

@[simp] theorem readStart_be32 (start : Word32) : readStart (be32 start) = some start :=
  congrArg some (from32_extract start)

/-! ### Single fields -/

theorem byte_toNat_of_le {n : Nat} (h : n ≤ 255) : (byte n).toNat = n := by
  rw [byte, BitVec.toNat_ofNat, Nat.mod_eq_of_lt (by omega)]

theorem byte_of_toNat (b : Byte) : byte b.toNat = b := by
  rw [byte, BitVec.ofNat_toNat, BitVec.setWidth_eq]

theorem readLaneSet_laneSetByte (x : LaneSet) : readLaneSet (laneSetByte x) = x := by
  obtain ⟨a, b, c⟩ := x
  cases a <;> cases b <;> cases c <;> rfl

theorem laneSetByte_le (x : LaneSet) : (laneSetByte x).toNat ≤ 7 := by
  obtain ⟨a, b, c⟩ := x
  cases a <;> cases b <;> cases c <;> decide

theorem laneSetByte_readLaneSet {b : Byte} (h : b.toNat ≤ 7) : laneSetByte (readLaneSet b) = b := by
  have all : ∀ n : Fin 8, laneSetByte (readLaneSet (byte n)) = byte n := by decide
  have this := all ⟨b.toNat, Nat.lt_succ_of_le h⟩
  rwa [byte_of_toNat] at this

theorem readTriggers_triggerByte (m : TriggerMask) : readTriggers (triggerByte m) = m := by
  have all : ∀ u v w x y z : Bool, readTriggers (triggerByte ⟨u, v, w, x, y, z⟩) = ⟨u, v, w, x, y, z⟩ := by decide
  exact all _ _ _ _ _ _

theorem triggerByte_le (m : TriggerMask) : (triggerByte m).toNat ≤ 63 := by
  have all : ∀ u v w x y z : Bool, (triggerByte ⟨u, v, w, x, y, z⟩).toNat ≤ 63 := by decide
  exact all _ _ _ _ _ _

theorem triggerByte_readTriggers {b : Byte} (h : b.toNat ≤ 63) : triggerByte (readTriggers b) = b := by
  have all : ∀ n : Fin 64, triggerByte (readTriggers (byte n)) = byte n := by decide
  have this := all ⟨b.toNat, Nat.lt_succ_of_le h⟩
  rwa [byte_of_toNat] at this

theorem eq_zero_or_one_of_toNat_le {b : Byte} (h : b.toNat ≤ 1) : b = 0 ∨ b = 1 := by
  obtain zero | one := Nat.le_one_iff_eq_zero_or_eq_one.mp h
  · exact .inl (BitVec.eq_of_toNat_eq zero)
  · exact .inr (BitVec.eq_of_toNat_eq one)

theorem flagByte_le (b : Bool) : (flagByte b).toNat ≤ 1 := by cases b <;> decide

theorem flagByte_beq_one (b : Bool) : (flagByte b == 1) = b := by cases b <;> rfl

theorem flagByte_of_beq_one {b : Byte} (h : b.toNat ≤ 1) : flagByte (b == 1) = b := by
  obtain rfl | rfl := eq_zero_or_one_of_toNat_le h <;> rfl

/-! ### The first field out of range -/

theorem inRange_iff {lo hi : Nat} {b : Byte} : inRange lo hi b = true ↔ lo ≤ b.toNat ∧ b.toNat ≤ hi := by
  simp [inRange]

theorem firstBad_eq_none_iff {fields : List (Nat × Bool)} : firstBad fields = none ↔ ∀ f ∈ fields, f.2 = true := by
  induction fields with
  | nil => simp [firstBad]
  | cons f rest ih =>
    rw [firstBad, List.forall_mem_cons]
    cases f.2 <;> simp [ih]

/-- The checks of a record's bytes against the ranges of its fields, the first of them the field with code `k`. -/
def rangeChecks : Nat → List (Nat × Nat) → List Byte → List (Nat × Bool)
  | k, range :: ranges, b :: record => (k, inRange range.1 range.2 b) :: rangeChecks (k + 1) ranges record
  | _, _, _ => []

/-- The byte at offset `i` of a record, where there is one, lies in the range there. -/
def FieldFits (ranges : List (Nat × Nat)) (record : List Byte) (i : Nat) : Prop :=
  ∀ x range, record[i]? = some x → ranges[i]? = some range → range.1 ≤ x.toNat ∧ x.toNat ≤ range.2

/-- The first field out of range is named by its code (R167 check 4). -/
theorem firstBad_rangeChecks {ranges : List (Nat × Nat)} {record : List Byte} {i : Nat} (k : Nat)
    (before : ∀ j < i, FieldFits ranges record j) (bad : ¬ FieldFits ranges record i) :
    firstBad (rangeChecks k ranges record) = some (k + i) := by
  induction i generalizing k ranges record with
  | zero =>
    match ranges, record with
    | [], _ => exact absurd (fun _ _ _ none => nomatch none) bad
    | _ :: _, [] => exact absurd (fun _ _ none => nomatch none) bad
    | range :: ranges, b :: record =>
      have out : inRange range.1 range.2 b = false := by
        refine Bool.eq_false_iff.mpr fun within => bad ?_
        rintro _ _ ⟨⟩ ⟨⟩
        exact inRange_iff.mp within
      simp [rangeChecks, firstBad, out]
  | succ i ih =>
    match ranges, record with
    | [], _ => exact absurd (fun _ _ _ none => nomatch none) bad
    | _ :: _, [] => exact absurd (fun _ _ none => nomatch none) bad
    | range :: ranges, b :: record =>
      have within : inRange range.1 range.2 b = true := inRange_iff.mpr (before 0 i.succ_pos _ _ rfl rfl)
      have rest := ih (ranges := ranges) (record := record) (k + 1) (fun j hj => before (j + 1) (Nat.succ_lt_succ hj)) bad
      simp only [rangeChecks, firstBad, within, if_true, rest]
      congr 1
      omega

/-! ### Global records -/

/-- The field ranges of a global record, by offset (Table 10.2). -/
def globalRanges : List (Nat × Nat) :=
  [(0, 7), (1, 3), (1, 15), (1, 255), (1, 255), (1, 255), (1, 255), (1, 255), (0, 3), (0, 1), (0, 2), (0, 2), (0, 2),
    (0, 63)]

/-- The global record that 15 bytes spell, in range or not (Table 11.10). -/
def globalOf (r : List Byte) : GlobalCfg where
  fitted := readLaneSet (r.getD 0 0)
  minMembers := (r.getD 1 0).toNat
  strikeLimit := (r.getD 2 0).toNat
  decayInterval := (r.getD 3 0).toNat
  probationLength := (r.getD 4 0).toNat
  beatTimeout := (r.getD 5 0).toNat
  exclusionHold := (r.getD 6 0).toNat
  echoTimeout := (r.getD 7 0).toNat
  echoRetries := (r.getD 8 0).toNat
  autoSuccession := r.getD 9 0 == 1
  ranks := ⟨(r.getD 10 0).toNat, (r.getD 11 0).toNat, (r.getD 12 0).toNat⟩
  triggers := readTriggers (r.getD 13 0)
  postCount := (r.getD 14 0).toNat

theorem readGlobal_eq {record : List Byte} (length : record.length = 15) :
    readGlobal record =
      match firstBad (rangeChecks 0 globalRanges record) with
      | some code => .error code
      | none => .ok (globalOf record) :=
  match record, length with
  | [_, _, _, _, _, _, _, _, _, _, _, _, _, _, _], _ => rfl

theorem length_of_readGlobal {record : List Byte} {g : GlobalCfg} (h : readGlobal record = .ok g) :
    record.length = 15 := by
  unfold readGlobal at h
  split at h
  · rfl
  · cases h

theorem readGlobal_eq_ok_iff {record : List Byte} {g : GlobalCfg} :
    readGlobal record = .ok g ↔
      record.length = 15 ∧ (∀ f ∈ rangeChecks 0 globalRanges record, f.2 = true) ∧ globalOf record = g := by
  rw [← firstBad_eq_none_iff]
  constructor
  · intro h
    have length := length_of_readGlobal h
    rw [readGlobal_eq length] at h
    cases passes : firstBad (rangeChecks 0 globalRanges record) with
    | none => rw [passes] at h; cases h; exact ⟨length, rfl, rfl⟩
    | some code => rw [passes] at h; cases h
  · rintro ⟨length, passes, rfl⟩
    rw [readGlobal_eq length, passes]

theorem readGlobal_globalBytes {g : GlobalCfg} (h : g.InRange) : readGlobal (globalBytes g) = .ok g := by
  obtain ⟨members, strikes, decay, probation, beat, hold, echo, retries, ⟨rankA, rankB, rankC⟩, post⟩ := h
  refine readGlobal_eq_ok_iff.mpr ⟨rfl, ?_, ?_⟩
  · have fitted := laneSetByte_le g.fitted
    have succession := flagByte_le g.autoSuccession
    have triggers := triggerByte_le g.triggers
    simp (disch := omega) only [globalBytes, globalRanges, rangeChecks, List.forall_mem_cons, inRange_iff,
      byte_toNat_of_le, List.not_mem_nil, false_imp_iff, implies_true, and_true]
    omega
  · simp (disch := omega) only [globalOf, globalBytes, List.getD_cons_zero, List.getD_cons_succ, byte_toNat_of_le,
      readLaneSet_laneSetByte, readTriggers_triggerByte, flagByte_beq_one]

theorem readGlobal_canonical {record : List Byte} {g : GlobalCfg} (h : readGlobal record = .ok g) :
    globalBytes g = record ∧ g.InRange := by
  obtain ⟨length, passes, rfl⟩ := readGlobal_eq_ok_iff.mp h
  match record, length with
  | [fit, mm, sl, di, pl, bt, eh, et, er, au, ra, rb, rc, tm, pc], _ =>
    simp only [globalRanges, rangeChecks, List.forall_mem_cons, inRange_iff] at passes
    obtain ⟨⟨-, fitted⟩, members, strikes, decay, probation, beat, hold, echo, ⟨-, retries⟩, ⟨-, succession⟩, ⟨-, rankA⟩,
      ⟨-, rankB⟩, ⟨-, rankC⟩, ⟨-, triggers⟩, -⟩ := passes
    refine ⟨?_, members, strikes, decay, probation, beat, hold, echo, retries, ⟨rankA, rankB, rankC⟩,
      Nat.le_of_lt_succ pc.isLt⟩
    simp only [globalBytes, globalOf, List.getD_cons_zero, List.getD_cons_succ, byte_of_toNat,
      laneSetByte_readLaneSet fitted, triggerByte_readTriggers triggers, flagByte_of_beq_one succession]

/-! ### Point records -/

/-- The byte ranges of a point record, by offset (Table 1.2): the tolerance is one of 32767 exactly where its first byte
is one of 127. -/
def pointRanges : List (Nat × Nat) :=
  [(0, 1), (0, 1), (0, 1), (0, 7), (1, 3), (0, 127), (0, 255), (0, 255), (0, 255), (0, 255), (0, 255), (0, 255),
    (0, 255), (1, 255), (0, 1), (0, 7)]

/-- The point record that 16 bytes spell, in range or not (Table 11.10). -/
def pointRecordOf (r : List Byte) : PointCfg where
  enabled := r.getD 0 0 == 1
  kind := if r.getD 1 0 = 0 then .discrete else .level
  mode := if r.getD 2 0 = 0 then .majority else .authority
  electorate := readLaneSet (r.getD 3 0)
  quorum := (r.getD 4 0).toNat
  tolerance := (from16 (r.getD 5 0) (r.getD 6 0)).toNat
  min := from16 (r.getD 7 0) (r.getD 8 0)
  max := from16 (r.getD 9 0) (r.getD 10 0)
  safe := from16 (r.getD 11 0) (r.getD 12 0)
  window := (r.getD 13 0).toNat
  fallback := if r.getD 14 0 = 0 then .hold else .safe
  notify := readLaneSet (r.getD 15 0)

theorem toNat_from16 (hi lo : Byte) : (from16 hi lo).toNat = hi.toNat * 256 + lo.toNat := by
  have append : (from16 hi lo).toNat = hi.toNat <<< 8 ||| lo.toNat := BitVec.toNat_append hi lo
  rw [append, Nat.shiftLeft_eq, Nat.mul_comm, ← Nat.two_pow_add_eq_or_of_lt lo.isLt, Nat.mul_comm]

theorem tolerance_le_iff (hi lo : Byte) : (from16 hi lo).toNat ≤ 32767 ↔ hi.toNat ≤ 127 := by
  rw [toNat_from16]
  have := lo.isLt
  omega

theorem inRange_of_byte (b : Byte) : inRange 0 255 b = true :=
  inRange_iff.mpr ⟨Nat.zero_le _, Nat.le_of_lt_succ b.isLt⟩

theorem readPointRecord_eq {record : List Byte} (length : record.length = 16) :
    readPointRecord record =
      match firstBad (rangeChecks 0 pointRanges record) with
      | some code => .error code
      | none => .ok (pointRecordOf record) := by
  match record, length with
  | [en, kd, md, el, qu, t1, t0, n1, n0, x1, x0, s1, s0, wi, fb, no], _ =>
    have tolerance : decide ((from16 t1 t0).toNat ≤ 32767) = inRange 0 127 t1 := by
      rw [Bool.eq_iff_iff, decide_eq_true_iff, tolerance_le_iff, inRange_iff]
      omega
    have checks : firstBad (rangeChecks 0 pointRanges
        [en, kd, md, el, qu, t1, t0, n1, n0, x1, x0, s1, s0, wi, fb, no]) =
        firstBad [(0, inRange 0 1 en), (1, inRange 0 1 kd), (2, inRange 0 1 md), (3, inRange 0 7 el),
          (4, inRange 1 3 qu), (5, decide ((from16 t1 t0).toNat ≤ 32767)), (13, inRange 1 255 wi),
          (14, inRange 0 1 fb), (15, inRange 0 7 no)] := by
      simp only [pointRanges, rangeChecks, firstBad, inRange_of_byte, tolerance, if_true]
    rw [checks]
    rfl

theorem length_of_readPointRecord {record : List Byte} {c : PointCfg} (h : readPointRecord record = .ok c) :
    record.length = 16 := by
  unfold readPointRecord at h
  split at h
  · rfl
  · cases h

theorem readPointRecord_eq_ok_iff {record : List Byte} {c : PointCfg} :
    readPointRecord record = .ok c ↔
      record.length = 16 ∧ (∀ f ∈ rangeChecks 0 pointRanges record, f.2 = true) ∧ pointRecordOf record = c := by
  rw [← firstBad_eq_none_iff]
  constructor
  · intro h
    have length := length_of_readPointRecord h
    rw [readPointRecord_eq length] at h
    cases passes : firstBad (rangeChecks 0 pointRanges record) with
    | none => rw [passes] at h; cases h; exact ⟨length, rfl, rfl⟩
    | some code => rw [passes] at h; cases h
  · rintro ⟨length, passes, rfl⟩
    rw [readPointRecord_eq length, passes]

theorem readPointRecord_pointBytes {c : PointCfg} (h : c.InRange) : readPointRecord (pointBytes c) = .ok c := by
  obtain ⟨enabled, kind, mode, electorate, quorum, tolerance, min, max, safe, window, fallback, notify⟩ := c
  obtain ⟨quorumLe, toleranceLe, windowLe⟩ := h
  dsimp only at quorumLe toleranceLe windowLe
  have whole : (BitVec.ofNat 16 tolerance).toNat = tolerance := by
    rw [BitVec.toNat_ofNat, Nat.mod_eq_of_lt (by omega)]
  have high : ((BitVec.ofNat 16 tolerance).extractLsb' 8 8).toNat ≤ 127 := by
    rw [← tolerance_le_iff _ ((BitVec.ofNat 16 tolerance).extractLsb' 0 8), from16_extract, whole]
    exact toleranceLe
  refine readPointRecord_eq_ok_iff.mpr ⟨rfl, ?_, ?_⟩
  · have electors := laneSetByte_le electorate
    have notified := laneSetByte_le notify
    have flag := flagByte_le enabled
    have kindLe : kind.code.toNat ≤ 1 := by cases kind <;> decide
    have modeLe : mode.code.toNat ≤ 1 := by cases mode <;> decide
    have fallbackLe : fallback.code.toNat ≤ 1 := by cases fallback <;> decide
    simp (disch := omega) only [pointBytes, nat16, be16, List.cons_append, List.nil_append, pointRanges, rangeChecks,
      List.forall_mem_cons, inRange_iff, byte_toNat_of_le, List.not_mem_nil, false_imp_iff, implies_true, and_true]
    have bytes := fun b : Byte => Nat.le_of_lt_succ b.isLt
    simp only [bytes, Nat.zero_le, true_and]
    omega
  · simp (disch := omega) only [pointRecordOf, pointBytes, nat16, be16, List.cons_append, List.nil_append,
      List.getD_cons_zero, List.getD_cons_succ, byte_toNat_of_le, readLaneSet_laneSetByte, flagByte_beq_one,
      from16_extract, whole]
    cases kind <;> cases mode <;> cases fallback <;> rfl

theorem readPointRecord_canonical {record : List Byte} {c : PointCfg} (h : readPointRecord record = .ok c) :
    pointBytes c = record ∧ c.InRange := by
  obtain ⟨length, passes, rfl⟩ := readPointRecord_eq_ok_iff.mp h
  match record, length with
  | [en, kd, md, el, qu, t1, t0, n1, n0, x1, x0, s1, s0, wi, fb, no], _ =>
    simp only [pointRanges, rangeChecks, List.forall_mem_cons, inRange_iff] at passes
    obtain ⟨⟨-, enabled⟩, ⟨-, kind⟩, ⟨-, mode⟩, ⟨-, electorate⟩, quorum, ⟨-, tolerance⟩, -, -, -, -, -, -, -, window,
      ⟨-, fallback⟩, ⟨-, notify⟩, -⟩ := passes
    refine ⟨?_, quorum, (tolerance_le_iff t1 t0).mpr tolerance, window⟩
    have whole : nat16 (from16 t1 t0).toNat = [t1, t0] := by
      rw [nat16, BitVec.ofNat_toNat, BitVec.setWidth_eq, be16_from16]
    have kindCode : (if kd = 0 then PointKind.discrete else .level).code = kd := by
      obtain rfl | rfl := eq_zero_or_one_of_toNat_le kind <;> rfl
    have modeCode : (if md = 0 then PointMode.majority else .authority).code = md := by
      obtain rfl | rfl := eq_zero_or_one_of_toNat_le mode <;> rfl
    have fallbackCode : (if fb = 0 then Fallback.hold else .safe).code = fb := by
      obtain rfl | rfl := eq_zero_or_one_of_toNat_le fallback <;> rfl
    simp only [pointBytes, pointRecordOf, List.getD_cons_zero, List.getD_cons_succ, byte_of_toNat, whole, be16_from16,
      laneSetByte_readLaneSet electorate, laneSetByte_readLaneSet notify, flagByte_of_beq_one enabled, kindCode, modeCode,
      fallbackCode, List.cons_append, List.nil_append]

/-! ### The canonical form of an image -/

theorem laneSetByte_eq (x : LaneSet) : laneSetByte x = BitVec.ofNat 8 (x.a.toNat + 2 * x.b.toNat + 4 * x.c.toNat) := by
  obtain ⟨a, b, c⟩ := x
  cases a <;> cases b <;> cases c <;> rfl

theorem triggerByte_eq (m : TriggerMask) :
    triggerByte m = BitVec.ofNat 8 (m.laneExcluded.toNat + 2 * m.pointFault.toNat + 4 * m.noDecision.toNat +
      8 * m.safeEntered.toNat + 16 * m.authorityLost.toNat + 32 * m.restart.toNat) := by
  have all : ∀ u v w x y z : Bool, triggerByte ⟨u, v, w, x, y, z⟩ = BitVec.ofNat 8 (u.toNat + 2 * v.toNat +
    4 * w.toNat + 8 * x.toNat + 16 * y.toNat + 32 * z.toNat) := by decide
  exact all _ _ _ _ _ _

theorem flagByte_eq (b : Bool) : flagByte b = BitVec.ofNat 8 b.toNat := by cases b <;> rfl

theorem be16_eq (x : BitVec 16) : be16 x = [BitVec.ofNat 8 (x.toNat / 256), BitVec.ofNat 8 (x.toNat % 256)] := by
  have high : x.extractLsb' 8 8 = BitVec.ofNat 8 (x.toNat / 256) := by
    apply BitVec.eq_of_toNat_eq
    simp [BitVec.extractLsb'_toNat, Nat.shiftRight_eq_div_pow]
  have low : x.extractLsb' 0 8 = BitVec.ofNat 8 (x.toNat % 256) := by
    apply BitVec.eq_of_toNat_eq
    simp [BitVec.extractLsb'_toNat]
  rw [be16, high, low]

theorem length_pointBytes (c : PointCfg) : (pointBytes c).length = 16 := rfl

theorem length_globalBytes (g : GlobalCfg) : (globalBytes g).length = 15 := rfl

/-- The `n`th of equally long blocks written one after the other. -/
theorem take_drop_flatten {α : Type} {k : Nat} (blocks : List (List α)) (equal : ∀ b ∈ blocks, b.length = k)
    (n : Nat) (within : n < blocks.length) : (blocks.flatten.drop (k * n)).take k = blocks[n] := by
  induction blocks generalizing n with
  | nil => cases within
  | cons b rest ih =>
    obtain ⟨size, sizes⟩ := List.forall_mem_cons.mp equal
    cases n with
    | zero => simp [← size]
    | succ n =>
      have skip : k * (n + 1) = b.length + k * n := by rw [size]; ring
      rw [List.flatten_cons, skip, List.drop_append, List.drop_eq_nil_of_le (Nat.le_add_right _ _), List.nil_append,
        Nat.add_sub_cancel_left]
      exact ih sizes n (Nat.lt_of_succ_lt_succ within)

theorem Image.points_drop (i : Image) (p : Fin 64) :
    ((i.points.toList.map pointBytes).flatten.drop (16 * p.val)).take 16 = pointBytes (i.points.at p) := by
  have within : p.val < (i.points.toList.map pointBytes).length := by simp
  rw [take_drop_flatten _ _ _ within]
  · simp [PerPoint.at]
  · simp only [List.mem_map]
    rintro _ ⟨c, -, rfl⟩
    rfl

theorem Image.length_bytes (i : Image) : i.bytes.length = 1039 := by
  have sizes : (i.points.toList.map pointBytes).map List.length = List.replicate 64 16 := by
    refine List.eq_replicate_iff.mpr ⟨by simp, fun n hn => ?_⟩
    simp only [List.mem_map] at hn
    obtain ⟨_, ⟨c, -, rfl⟩, rfl⟩ := hn
    rfl
  rw [Image.bytes, List.length_append, List.length_flatten, sizes, length_globalBytes]
  rfl

/-- Settles O52: the single fields read back as written, and the records and the image are their fields in order. -/
theorem configurationRecordsRoundTrip : Obligations.ConfigurationRecordsRoundTrip := by
  refine ⟨fun g => readGlobal_globalBytes, fun _ g => readGlobal_canonical, fun c => readPointRecord_pointBytes,
    fun _ c => readPointRecord_canonical, ⟨fun g => ?global, fun c => ?point⟩, fun i => ?image⟩
  case global =>
    rw [globalBytes, laneSetByte_eq, triggerByte_eq, flagByte_eq]
    rfl
  case point =>
    rw [pointBytes, laneSetByte_eq, laneSetByte_eq, flagByte_eq, nat16, be16_eq, be16_eq, be16_eq, be16_eq]
    obtain ⟨enabled, kind, mode, electorate, quorum, tolerance, min, max, safe, window, fallback, notify⟩ := c
    cases kind <;> cases mode <;> cases fallback <;> rfl
  case image =>
    refine ⟨i.length_bytes, List.take_left' rfl, fun p => ?_, rfl⟩
    rw [Image.bytes, List.drop_append, List.drop_eq_nil_of_le (by rw [length_globalBytes]; omega), length_globalBytes,
      List.nil_append, Nat.add_sub_cancel_left]
    exact i.points_drop p

end Sys2Proof.Machine

/-! What a step can do, said once: every command but those of RESET_N is a run of named changes, each with the condition
under which it is made. An invariant that each change keeps is kept by every step. -/

namespace Sys2Proof.Machine

/-! ### The changes -/

/-- When a lane whose entry stands as `e` may change to state `new`: it is not ABSENT and does not become so, a lane joins
only in OPERATE mode over a link in RUN, probation needs a MEMBER, and the entry of the new state is sound where the old
one was (R66, R67, R70, R75). -/
structure State.MayMove (s : State) (l : Lane) (e : LaneEntry) (new : LaneState) (cause : LaneCause) : Prop where
  same : e.state = s.laneState l
  present : s.laneState l ≠ .absent
  stays : new ≠ .absent
  differs : new ≠ s.laneState l
  joins : new.joined = true → (s.laneState l).joined = true ∨ s.cu.mode = .operate ∧ (s.link l.link).state = .run
  backed : new = .probation → ∃ m, s.laneState m = .member
  sound : (s.lane l).Sound s.global → (e.entered s.time s.global.exclusionHold new cause).Sound s.global

/-- What a closing may cause besides the vote it closes (R30, R60): records, notices, a value handed on, and what the
verdicts do to lanes. -/
inductive State.Consequence : State → State → Prop where
  | submit (s : State) (sub : Option Lane) (b : RecordBody) : Consequence s (s.submit sub b)
  | notify (s : State) (r : LaneSet) (n : Notice) : Consequence s (s.notify r n)
  | handOff (s : State) (p : Fin 64) (v : Value) : Consequence s (s.handOff p v)
  | counts (s : State) (l : Lane) (e : LaneEntry) (same : e.state = s.laneState l)
      (sound : (s.lane l).Sound s.global → e.Sound s.global) : Consequence s (s.putLane l e)
  | move (s : State) (l : Lane) (e : LaneEntry) (new : LaneState) (cause : LaneCause)
      (may : s.MayMove l e new cause) : Consequence s ((s.putLane l e).moveLane l new cause)

/-- The slots `xs` are in order and sound for point `p` as the state stands (R24, R27, R33). -/
def State.SlotsSound (p : Fin 64) (xs : List Slot) (s : State) : Prop :=
  slotsInOrder (s.voteOf p).next xs ∧ ∀ x ∈ xs, x.Sound (s.cfgOf p).electorate s.joined

/-- The changes that commands make, where `A` holds of the request kinds that may re-initialise drive parts. -/
inductive State.Change (A : ReqKind → Prop) : State → State → Prop where
  | consequence {s t : State} (h : s.Consequence t) : Change A s t
  | tick (s : State) : Change A s { s with time := s.time + 1 }
  | links (s : State) (lu : PerLink LinkUnit)
      (keeps : ∀ n, (s.laneState n).joined = true → (s.link n.link).state = .run → (lu.get n.link).state = .run) :
      Change A s { s with lu := lu }
  | sent (s : State) (n : Lane) (x : Notice) (rest : List Notice) (head : (s.nu.get n).queue = x :: rest) :
      Change A s { s with nu := s.nu.set n { queue := rest, lost := 0, seq := (s.nu.get n).seq + 1 } }
  | slots (s : State) (p : Fin 64) (xs : List Slot)
      (here : (s.voteOf p).slots ≠ [] ∨ s.cu.mode = .operate ∧ (s.cfgOf p).enabled = true)
      (keeps : s.SlotsSound p (s.voteOf p).slots → s.SlotsSound p xs) : Change A s (s.putSlots p xs)
  | claim (s : State) (l : Lane) (member : s.laneState l = .member) (free : s.au.holder = none) :
      Change A s (s.changeHolder (some l) s.au.claims .claimed l)
  | queueClaim (s : State) (l : Lane) (member : s.laneState l = .member) (held : s.au.holder ≠ none)
      (other : s.au.holder ≠ some l) (fresh : l ∉ s.au.claims) :
      Change A s { s with au := { s.au with claims := s.au.claims ++ [l] } }
  | yield (s : State) (l : Lane) (holds : s.au.holder = some l) :
      Change A s (s.changeHolder s.au.claims.head? s.au.claims.tail .yielded l)
  | withdraw (s : State) (l : Lane) : Change A s { s with au := s.au.dropClaim l }
  | drive (s : State) (du : DriveUnit) (sound : s.DriveSound → ({ s with du := du } : State).DriveSound)
      (faulted : s.DriveSound → ∀ p, (s.driveOf p).status = .faulted → du.part p = s.driveOf p) :
      Change A s { s with du := du }
  | clear (s : State) (p : Fin 64) (faulted : (s.driveOf p).status = .faulted) (allowed : A .pointClear) :
      Change A s { s with du := s.du.clear s.global.echoRetries p }
  | vote (s : State) (l : Lane) (member : s.laneState l = .member) :
      Change A s { s with sc := { s.sc with collection := some (s.collectionWith l) } }
  | endVote (s : State) : Change A s { s with sc := { s.sc with collection := none } }
  | restart (s : State) (kind : RestartKind) (voters : LaneSet) (operate : s.cu.mode = .operate)
      (allowed : A .restart) : Change A s (s.warmRestart kind voters)
  | rearm (s : State) : Change A s { s with ij := s.ij.rearmed }
  | openSession (s : State) (operate : s.cu.mode = .operate) (left : ∀ l, (s.laneState l).joined = false)
      (closed : ∀ p, (s.voteOf p).slots = []) :
      Change A s (({ s with cu := { s.cu with mode := .config, staging := s.cu.active } } : State).reevaluate none)
  | write (s : State) (i : Image) (config : s.cu.mode = .config) (inRange : s.cu.staging.InRange → i.InRange)
      (global : i.global = s.cu.staging.global ∨ i.global.InRange) : Change A s (s.putStaging i)
  | abort (s : State) (config : s.cu.mode = .config) (committed : s.cu.committed = true) :
      Change A s (({ s with cu := { s.cu with mode := .operate, staging := s.cu.active } } : State).reevaluate none)
  | commit (s : State) (config : s.cu.mode = .config) (valid : validateImage s.cu.staging = none)
      (allowed : A .cfgCommit) : Change A s s.commit

/-! ### What keeps a property -/

/-- A property that every consequence of a closing keeps. -/
def KeptByConsequences (P : State → Prop) : Prop := ∀ s t, s.Consequence t → P s → P t

/-- A property that every change and every closing keeps. -/
structure Kept (A : ReqKind → Prop) (P : State → Prop) : Prop where
  change : ∀ s t, s.Change A t → P s → P t
  close : ∀ p cause s, P s → P (State.closePoint p cause s)

section
variable {P : State → Prop} (k : KeptByConsequences P)
include k

theorem KeptByConsequences.submit {s : State} (sub : Option Lane) (b : RecordBody) (h : P s) : P (s.submit sub b) :=
  k _ _ (.submit s sub b) h

theorem KeptByConsequences.notify {s : State} (r : LaneSet) (n : Notice) (h : P s) : P (s.notify r n) :=
  k _ _ (.notify s r n) h

theorem KeptByConsequences.counts {s : State} {l : Lane} {e : LaneEntry} (same : e.state = s.laneState l)
    (sound : (s.lane l).Sound s.global → e.Sound s.global) (h : P s) : P (s.putLane l e) :=
  k _ _ (.counts s l e same sound) h

theorem KeptByConsequences.move {s : State} {l : Lane} {e : LaneEntry} {new : LaneState} {cause : LaneCause}
    (may : s.MayMove l e new cause) (h : P s) : P ((s.putLane l e).moveLane l new cause) :=
  k _ _ (.move s l e new cause may) h

end

/-! ### Lanes that leave -/

theorem State.putLane_lane (s : State) (l : Lane) : s.putLane l (s.lane l) = s := by
  simp [State.putLane, State.lane]

/-- Soundness of a MEMBER's entry. -/
theorem LaneEntry.sound_of_member {g : GlobalCfg} {e : LaneEntry} (member : e.state = .member) :
    e.Sound g ↔ e.beatDeadline.isSome = true ∧ e.holdDeadline = none ∧ e.strikes < g.strikeLimit ∧
      e.cleanRun < g.decayInterval ∧ e.credit = 0 ∧ 0 < g.probationLength := by
  simp only [LaneEntry.Sound, member, LaneState.joined, reduceCtorEq, false_imp_iff, true_and, iff_true, iff_false,
    Bool.not_eq_true, Option.isSome_eq_false_iff, Option.isNone_iff_eq_none, true_imp_iff]
  constructor
  · rintro ⟨beat, hold, strikes, run, credit, none⟩
    exact ⟨beat, hold, strikes, run, none, none ▸ credit⟩
  · rintro ⟨beat, hold, strikes, run, none, credit⟩
    exact ⟨beat, hold, strikes, run, none ▸ credit, none⟩

/-- Soundness of a PROBATION lane's entry. -/
theorem LaneEntry.sound_of_probation {g : GlobalCfg} {e : LaneEntry} (probation : e.state = .probation) :
    e.Sound g ↔ e.beatDeadline.isSome = true ∧ e.holdDeadline = none ∧ e.credit < g.probationLength ∧
      (e.strikes = 0 ∧ 0 < g.strikeLimit) ∧ (e.cleanRun = 0 ∧ 0 < g.decayInterval) := by
  simp only [LaneEntry.Sound, probation, LaneState.joined, reduceCtorEq, false_imp_iff, true_and, iff_true, iff_false,
    Bool.not_eq_true, Option.isSome_eq_false_iff, Option.isNone_iff_eq_none, true_imp_iff, and_true]
  constructor
  · rintro ⟨beat, hold, strikes, run, credit, noStrike, noRun⟩
    exact ⟨beat, hold, credit, ⟨noStrike, noStrike ▸ strikes⟩, noRun, noRun ▸ run⟩
  · rintro ⟨beat, hold, credit, ⟨noStrike, strikes⟩, noRun, run⟩
    exact ⟨beat, hold, noStrike ▸ strikes, noRun ▸ run, credit, noStrike, noRun⟩

theorem LaneEntry.Sound.entered_apart {g : GlobalCfg} {e f : LaneEntry} (h : e.Sound g) (now : Time) (hold : Nat)
    {new : LaneState} (cause : LaneCause) (departed : new = .down ∨ new = .excluded) :
    (f.entered now hold new cause).Sound g := by
  obtain ⟨-, -, -, strikes, run, credit, -⟩ := h
  rw [LaneEntry.entered_of_departed new cause now hold f departed]
  obtain rfl | rfl := departed <;> simp [LaneEntry.Sound, LaneState.joined] <;> omega

/-- A lane that is not ABSENT may go DOWN or EXCLUDED from any other state. -/
theorem State.mayMove_departed {s : State} {l : Lane} {e : LaneEntry} {new : LaneState} (cause : LaneCause)
    (same : e.state = s.laneState l) (present : s.laneState l ≠ .absent) (departed : new = .down ∨ new = .excluded)
    (differs : new ≠ s.laneState l) : s.MayMove l e new cause where
  same := same
  present := present
  stays := by obtain rfl | rfl := departed <;> nofun
  differs := differs
  joins joined := by obtain rfl | rfl := departed <;> cases joined
  backed probation := by obtain rfl | rfl := departed <;> cases probation
  sound sound := sound.entered_apart _ _ _ departed

section
variable {P : State → Prop} (k : KeptByConsequences P) {s : State}
include k

theorem KeptByConsequences.moveLane_departed {l : Lane} {new : LaneState} (cause : LaneCause)
    (present : s.laneState l ≠ .absent) (departed : new = .down ∨ new = .excluded) (differs : new ≠ s.laneState l)
    (h : P s) : P (s.moveLane l new cause) := by
  have moved := k.move (State.mayMove_departed (e := s.lane l) cause rfl present departed differs) h
  rwa [s.putLane_lane l] at moved

theorem KeptByConsequences.depart (l : Lane) (cause : LaneCause) (h : P s) : P (s.depart l cause) := by
  unfold State.depart
  split
  next probation =>
    exact k.moveLane_departed cause (by rw [probation]; nofun) (.inl rfl) (by rw [probation]; nofun) h
  next member => exact k.moveLane_departed cause (by rw [member]; nofun) (.inr rfl) (by rw [member]; nofun) h
  next => exact h

/-! ### Verdicts -/

theorem KeptByConsequences.strike (l : Lane) (cause : LaneCause) (member : s.laneState l = .member) (h : P s) :
    P (s.strike l cause) := by
  unfold State.strike
  dsimp only
  split
  next =>
    exact k.move (State.mayMove_departed cause (by rfl) (by rw [member]; nofun) (.inr rfl) (by rw [member]; nofun)) h
  next below =>
    refine k.counts rfl (fun sound => ?_) h
    obtain ⟨beat, hold, strikes, run, credit, length⟩ := (LaneEntry.sound_of_member member).mp sound
    exact (LaneEntry.sound_of_member (by exact member)).mpr
      ⟨beat, hold, Nat.lt_of_le_of_ne (Nat.succ_le_of_lt strikes) below, Nat.zero_lt_of_lt run, credit, length⟩

theorem KeptByConsequences.cleanVote (l : Lane) (member : s.laneState l = .member) (h : P s) : P (s.cleanVote l) := by
  rw [State.cleanVote_eq]
  refine k.counts (by split <;> rfl) (fun sound => ?_) h
  obtain ⟨beat, hold, strikes, run, credit, length⟩ := (LaneEntry.sound_of_member member).mp sound
  split
  next =>
    exact (LaneEntry.sound_of_member (by exact member)).mpr
      ⟨beat, hold, (Nat.sub_le _ _).trans_lt strikes, Nat.zero_lt_of_lt run, credit, length⟩
  next below =>
    exact (LaneEntry.sound_of_member (by exact member)).mpr
      ⟨beat, hold, strikes, Nat.lt_of_le_of_ne (Nat.succ_le_of_lt run) below, credit, length⟩

theorem KeptByConsequences.creditLane (l : Lane) (probation : s.laneState l = .probation) (h : P s) :
    P (s.creditLane l) := by
  unfold State.creditLane
  dsimp only
  split
  next =>
    refine k.move ⟨rfl, by rw [probation]; nofun, nofun, by rw [probation]; nofun, fun _ => .inl (by rw [probation]; rfl),
      nofun, fun sound => ?_⟩ h
    obtain ⟨beat, -, credit, ⟨noStrike, strikes⟩, noRun, run⟩ := (LaneEntry.sound_of_probation probation).mp sound
    exact (LaneEntry.sound_of_member rfl).mpr
      ⟨beat, rfl, noStrike.trans_lt strikes, noRun.trans_lt run, rfl, Nat.zero_lt_of_lt credit⟩
  next below =>
    refine k.counts rfl (fun sound => ?_) h
    obtain ⟨beat, hold, credit, strikes, run⟩ := (LaneEntry.sound_of_probation probation).mp sound
    exact (LaneEntry.sound_of_probation (by exact probation)).mpr
      ⟨beat, hold, Nat.lt_of_le_of_ne (Nat.succ_le_of_lt credit) below, strikes, run⟩

theorem KeptByConsequences.takeVerdict (l : Lane) (v : Option Verdict) (h : P s) : P (s.takeVerdict l v) := by
  unfold State.takeVerdict
  split
  next member => exact k.strike l _ member h
  next member => exact k.strike l _ member h
  next member => exact k.cleanVote l member h
  next probation => exact k.creditLane l probation h
  next probation =>
    exact k.moveLane_departed _ (by rw [probation]; nofun) (.inl rfl) (by rw [probation]; nofun) h
  next => exact h

theorem KeptByConsequences.takeVerdicts (v : PerLane (Option Verdict)) (h : P s) : P (s.takeVerdicts v) :=
  k.takeVerdict .c _ (k.takeVerdict .b _ (k.takeVerdict .a _ h))

/-- A closing is the vote's advance with its consequences. -/
theorem KeptByConsequences.closeSlot (p : Fin 64) (x : Slot) (rest : List Slot) (cause : CloseCause)
    (advance : ∀ last, P (s.putVote p ⟨(s.voteOf p).next + 1, rest, last⟩)) : P (s.closeSlot p x rest cause) := by
  unfold State.closeSlot
  dsimp only
  refine k.takeVerdicts _ ?_
  have handed : ∀ v u, P u → P (State.handOptional p v u) := by
    intro v u hu
    cases v with
    | none => exact hu
    | some v => exact k _ _ (.handOff u p v) hu
  unfold State.submitOutcome
  split
  · exact k.submit _ _ (k.notify _ _ (handed _ _ (advance _)))
  · exact k.notify _ _ (handed _ _ (advance _))

end

end Sys2Proof.Machine

/-! What each operation comes to in named changes: the entries of a PROPOSE, the owners of requests, the link units and
the drive path (R18 to R183). A property that every change keeps is kept by every command but those of RESET_N. -/

namespace Sys2Proof.Machine

/-! ### Slots stored into and ripened -/

theorem Slot.complete_iff (x : Slot) : x.complete = true ↔ ∀ l, x.roll.get l = true → x.hasProposal l = true := by
  simp only [Slot.complete, Slot.proposers, LaneSet.subset_iff, PerLane.get_tabulate]

theorem Slot.hasProposal_iff (x : Slot) (l : Lane) : x.hasProposal l = true ↔ ∃ q ∈ x.proposals, q.lane = l := by
  simp [Slot.hasProposal, List.any_eq_true]

theorem serialDistance_eq_zero_iff {serial next : Serial} : serialDistance serial next = 0 ↔ serial = next := by
  rw [serialDistance]
  constructor
  · intro zero
    exact sub_eq_zero.mp (BitVec.eq_of_toNat_eq zero)
  · rintro rfl
    rw [sub_self]
    rfl

theorem serialDistance_eq_one_iff {serial next : Serial} : serialDistance serial next = 1 ↔ serial = next + 1 := by
  rw [serialDistance]
  constructor
  · intro one
    have back : serial - next = 1 := BitVec.eq_of_toNat_eq one
    rw [← back, add_sub_cancel]
  · rintro rfl
    rw [add_sub_cancel_left]
    rfl

theorem newSlot_sound {cfg : PointCfg} {joined : LaneSet} {l : Lane} (now : Time) (e : ProposeEntry)
    (elector : cfg.electorate.get l = true) (here : joined.get l = true) :
    (newSlot now cfg joined l e).Sound cfg.electorate joined := by
  have roll : ∀ m, (newSlot now cfg joined l e).roll.get m = (cfg.electorate.get m && joined.get m) :=
    LaneSet.get_inter _ _
  refine ⟨fun m onRoll => ?_, List.nodup_singleton _, fun q hq => ?_, nofun⟩
  · rwa [roll, Bool.and_eq_true] at onRoll
  · cases List.mem_singleton.mp hq
    rw [roll, elector, here]
    rfl

theorem Slot.Sound.store {electorate joined : LaneSet} {x : Slot} {l : Lane} (h : x.Sound electorate joined) (v : Value)
    (onRoll : x.roll.get l = true) (fresh : x.hasProposal l = false) : (x.store l v).Sound electorate joined := by
  obtain ⟨roll, once, lanes, ripe⟩ := h
  refine ⟨roll, ?once, fun q hq => ?lanes, fun state => ?ripe⟩
  case once =>
    simp only [Slot.store, List.map_append, List.map_cons, List.map_nil]
    refine List.nodup_append.mpr ⟨once, List.nodup_singleton _, fun m hm n hn same => ?_⟩
    obtain ⟨q, hq, rfl⟩ := List.mem_map.mp hm
    cases List.mem_singleton.mp hn
    rw [Bool.eq_false_iff] at fresh
    exact fresh ((x.hasProposal_iff l).mpr ⟨q, hq, same⟩)
  case lanes =>
    obtain old | new := List.mem_append.mp hq
    · exact lanes q old
    · cases List.mem_singleton.mp new
      exact onRoll
  case ripe =>
    have complete := (Slot.complete_iff x).mp (ripe state)
    refine (Slot.complete_iff _).mpr fun m hm => ?_
    obtain ⟨q, hq, same⟩ := (x.hasProposal_iff m).mp (complete m hm)
    exact (Slot.hasProposal_iff _ m).mpr ⟨q, List.mem_append_left _ hq, same⟩

theorem Slot.Sound.ripenComplete {electorate joined : LaneSet} {x : Slot} (h : x.Sound electorate joined) :
    x.ripenComplete.Sound electorate joined := by
  obtain ⟨roll, once, lanes, ripe⟩ := h
  unfold Slot.ripenComplete
  split
  next found => exact ⟨roll, once, lanes, fun _ => found.2⟩
  next => exact ⟨roll, once, lanes, ripe⟩

theorem Slot.ripenComplete_serial (x : Slot) : x.ripenComplete.serial = x.serial := by
  unfold Slot.ripenComplete
  split <;> rfl

/-- A slot for N+1 is RIPE where it is complete. -/
theorem Slot.complete_of_ripenComplete_opened {x : Slot} (h : x.ripenComplete.state = .opened) :
    x.ripenComplete.complete = false := by
  unfold Slot.ripenComplete at h ⊢
  split at h
  · cases h
  next open_ => rw [if_neg open_]; exact Bool.eq_false_iff.mpr fun complete => open_ ⟨h, complete⟩

theorem slotRefusal_eq_none {l : Lane} {x : Slot} (h : slotRefusal l x = none) :
    x.roll.get l = true ∧ x.hasProposal l = false := by
  unfold slotRefusal at h
  split at h
  · cases h
  next onRoll =>
    split at h
    · cases h
    next fresh => exact ⟨(Bool.not_eq_false _).mp onRoll, (Bool.not_eq_true _).mp fresh⟩

section
variable {A : ReqKind → Prop} {P : State → Prop} (k : Kept A P) {s : State}
include k

theorem Kept.consequences : KeptByConsequences P := fun _ _ h => k.change _ _ (.consequence h)

/-! ### PROPOSE -/

theorem Kept.settleFirst {p : Fin 64} {x : Slot} {rest : List Slot}
    (here : (s.voteOf p).slots ≠ [] ∨ s.cu.mode = .operate ∧ (s.cfgOf p).enabled = true)
    (keeps : s.SlotsSound p (s.voteOf p).slots → s.SlotsSound p (x :: rest)) (h : P s) : P (s.settleFirst p x rest) := by
  unfold State.settleFirst
  dsimp only
  split
  · exact k.close _ _ _ (k.change _ _ (.slots s p _ here keeps) h)
  · exact k.change _ _ (.slots s p _ here keeps) h

theorem Kept.proposeAt {p : Fin 64} {l : Lane} (e : ProposeEntry) (operate : s.cu.mode = .operate)
    (enabled : (s.cfgOf p).enabled = true) (elector : (s.cfgOf p).electorate.get l = true)
    (joined : (s.laneState l).joined = true) (h : P s) : P (s.proposeAt p l e).2 := by
  have fresh : (newSlot s.time (s.cfgOf p) s.joined l e).Sound (s.cfgOf p).electorate s.joined :=
    newSlot_sound s.time e elector (by rwa [State.get_joined])
  have here : ∀ xs : List Slot, xs ≠ [] ∨ s.cu.mode = .operate ∧ (s.cfgOf p).enabled = true :=
    fun _ => .inr ⟨operate, enabled⟩
  unfold State.proposeAt
  dsimp only
  split
  · exact h
  split
  · exact h
  next near =>
  split
  next zero =>
    have serial : e.serial = (s.voteOf p).next := serialDistance_eq_zero_iff.mp zero
    split
    next none =>
      exact k.settleFirst (here _) (fun _ => ⟨⟨serial, rfl⟩, fun y hy => List.mem_singleton.mp hy ▸ fresh⟩) h
    next x rest slots =>
      split
      · exact h
      next accepted =>
        obtain ⟨onRoll, silent⟩ := slotRefusal_eq_none accepted
        refine k.settleFirst (here _) (fun sound => ?_) h
        rw [slots] at sound
        obtain ⟨order, each⟩ := sound
        refine ⟨?_, List.forall_mem_cons.mpr ⟨(each x List.mem_cons_self).store e.value onRoll silent,
          fun y hy => each y (List.mem_cons_of_mem _ hy)⟩⟩
        match rest, order with
        | [], order => exact order
        | [_], order => exact order
  next notZero =>
    have serial : e.serial = (s.voteOf p).next + 1 := serialDistance_eq_one_iff.mp (by omega)
    split
    · exact h
    next x slots =>
      refine k.change _ _ (.slots s p _ (here _) fun sound => ?_) h
      rw [slots] at sound
      obtain ⟨order, each⟩ := sound
      refine ⟨⟨order.1, order.2, (Slot.ripenComplete_serial _).trans serial, Slot.complete_of_ripenComplete_opened⟩, ?_⟩
      exact List.forall_mem_cons.mpr ⟨each x List.mem_cons_self, fun y hy => List.mem_singleton.mp hy ▸ fresh.ripenComplete⟩
    next x y rest slots =>
      split
      · exact h
      next accepted =>
        obtain ⟨onRoll, silent⟩ := slotRefusal_eq_none accepted
        refine k.change _ _ (.slots s p _ (here _) fun sound => ?_) h
        rw [slots] at sound
        obtain ⟨order, each⟩ := sound
        have stored := ((each y (by simp)).store e.value onRoll silent).ripenComplete
        match rest, order with
        | [], order =>
          obtain ⟨first, opened, second, -⟩ := order
          refine ⟨⟨first, opened, (Slot.ripenComplete_serial _).trans second, Slot.complete_of_ripenComplete_opened⟩, ?_⟩
          exact List.forall_mem_cons.mpr ⟨each x List.mem_cons_self, fun y hy => List.mem_singleton.mp hy ▸ stored⟩

theorem Kept.proposeEntry (l : Lane) (e : ProposeEntry) (operate : s.cu.mode = .operate) (h : P s) :
    P (s.proposeEntry l e).2 := by
  unfold State.proposeEntry
  dsimp only
  split
  · exact h
  next joined =>
  split
  · exact h
  split
  · exact h
  next enabled =>
  split
  · exact h
  next elector =>
  split
  · exact h
  exact k.proposeAt e operate ((Bool.not_eq_false _).mp enabled) ((Bool.not_eq_false _).mp elector)
    ((Bool.not_eq_false _).mp joined) h

theorem Kept.proposeEntries (l : Lane) (es : List ProposeEntry) (operate : s.cu.mode = .operate) (h : P s) :
    P (s.proposeEntries l es).2 := by
  induction es generalizing s with
  | nil => exact h
  | cons e rest ih =>
    have first := s.proposeEntry_base l e
    exact ih (by rw [first.cu]; exact operate) (k.proposeEntry l e operate h)

theorem Kept.servePropose (l : Lane) (payload : List Byte) (h : P s) : P (servePropose l payload s).state := by
  unfold Machine.servePropose
  split
  · exact h
  split
  · exact h
  next operate =>
  split
  · exact h
  refine k.proposeEntries l _ ?_ h
  cases mode : s.cu.mode with
  | config => exact absurd mode operate
  | operate => rfl

/-! ### The windows -/

theorem Kept.expireWindow (p : Fin 64) (serial : Serial) (h : P s) : P (s.expireWindow p serial) := by
  unfold State.expireWindow
  split
  · exact h
  next first rest slots =>
  split
  · split
    · exact k.close _ _ _ h
    · exact h
  · refine k.change _ _ (.slots s p _ (.inl (by rw [slots]; nofun)) fun sound => ?_) h
    rw [slots] at sound
    obtain ⟨order, each⟩ := sound
    have later : ∀ (b : Prop) [Decidable b] (x : Slot), x ∈ first :: rest →
        (if b then { x with state := .ripe .expired } else x).Sound (s.cfgOf p).electorate s.joined := by
      intro b _ x hx
      obtain ⟨roll, once, lanes, ripe⟩ := each x hx
      split
      · exact ⟨roll, once, lanes, nofun⟩
      · exact ⟨roll, once, lanes, ripe⟩
    refine ⟨?_, List.forall_mem_cons.mpr ⟨each first List.mem_cons_self, fun y hy => ?_⟩⟩
    · match rest, order with
      | [], order => exact order
      | [x], order =>
        obtain ⟨serial, opened, next, incomplete⟩ := order
        refine ⟨serial, opened, ?_, ?_⟩
        · dsimp only
          split <;> exact next
        · dsimp only
          split
          · nofun
          · exact incomplete
    · obtain ⟨x, hx, rfl⟩ := List.mem_map.mp hy
      exact later _ x (List.mem_cons_of_mem _ hx)

theorem Kept.closeDeparted (p : Fin 64) (h : P s) : P (s.closeDeparted p) := by
  unfold State.closeDeparted
  split
  · exact h
  · split
    · exact k.close _ _ _ h
    · exact h

end

end Sys2Proof.Machine

/-! The Drive Unit's invariant (R116, R117) through each of its operations: a point leaves or joins the apply queue and
the echo table exactly as its status changes. -/

namespace Sys2Proof.Machine

/-- The Drive Unit's invariant, where `enabled` says which points are enabled. -/
def DriveUnit.Sound (enabled : Fin 64 → Prop) (d : DriveUnit) : Prop :=
  d.queue.Nodup ∧ (∀ p, p ∈ d.queue ↔ (d.part p).status = .queued) ∧
  d.echoes.length ≤ 8 ∧ (d.echoes.map EchoEntry.point).Nodup ∧ (d.echoes.map EchoEntry.tag).Nodup ∧
  (∀ p, p ∈ d.echoes.map EchoEntry.point ↔ (d.part p).status = .inFlight) ∧
  ∀ p, enabled p → (d.part p).status = .idle → (d.part p).confirmed = some (d.part p).target

theorem State.driveSound_iff (s : State) : s.DriveSound ↔ s.du.Sound fun p => (s.cfgOf p).enabled = true := Iff.rfl

theorem DriveUnit.part_putPart (d : DriveUnit) (p q : Fin 64) (x : DrivePart) :
    (d.putPart p x).part q = if q = p then x else d.part q :=
  PerPoint.at_put d.parts p q x

theorem DriveUnit.part_enqueue (d : DriveUnit) (p q : Fin 64) (x : DrivePart) :
    (d.enqueue p x).part q = if q = p then { x with status := .queued } else d.part q :=
  PerPoint.at_put d.parts p q _

section
variable {enabled : Fin 64 → Prop} {d : DriveUnit}

/-- A point that is neither in the queue nor in the echo table may join the queue. -/
theorem DriveUnit.Sound.enqueue (h : d.Sound enabled) {p : Fin 64} (x : DrivePart)
    (free : (d.part p).status = .idle ∨ (d.part p).status = .faulted) : (d.enqueue p x).Sound enabled := by
  obtain ⟨once, queued, few, points, tags, flying, idle⟩ := h
  have absent : p ∉ d.queue := fun hp => by
    rw [queued] at hp
    obtain f | f := free <;> rw [hp] at f <;> cases f
  have grounded : (d.part p).status ≠ .inFlight := fun hp => by obtain f | f := free <;> rw [hp] at f <;> cases f
  refine ⟨?_, fun q => ?_, few, points, tags, fun q => ?_, fun q => ?_⟩
  · exact List.nodup_append.mpr ⟨once, List.nodup_singleton p, fun a ha b hb same =>
      absent (List.mem_singleton.mp hb ▸ same ▸ ha)⟩
  · rw [DriveUnit.part_enqueue]
    change q ∈ d.queue ++ [p] ↔ _
    rw [List.mem_append, List.mem_singleton, queued]
    split
    next same => simp [same]
    next other => simp [other]
  · rw [DriveUnit.part_enqueue]
    change q ∈ d.echoes.map EchoEntry.point ↔ _
    rw [flying]
    split
    next same => simp [same, grounded]
    next => rfl
  · rw [DriveUnit.part_enqueue]
    split
    · nofun
    · exact idle q

/-- A part replaced by one of the same status. -/
theorem DriveUnit.Sound.putPart (h : d.Sound enabled) {p : Fin 64} {x : DrivePart} (same : x.status = (d.part p).status)
    (settled : x.status ≠ .idle) : (d.putPart p x).Sound enabled := by
  obtain ⟨once, queued, few, points, tags, flying, idle⟩ := h
  have status : ∀ q, ((d.putPart p x).part q).status = (d.part q).status := by
    intro q
    rw [DriveUnit.part_putPart]
    split
    next here => rw [same, here]
    next => rfl
  refine ⟨once, fun q => (queued q).trans (by rw [status]), few, points, tags,
    fun q => (flying q).trans (by rw [status]), fun q en => ?_⟩
  rw [DriveUnit.part_putPart]
  split
  · exact fun still => absurd still settled
  · exact idle q en

theorem DriveUnit.Sound.handOff (h : d.Sound enabled) (retries : Nat) (p : Fin 64) (v : Value) :
    (d.handOff retries p v).Sound enabled := by
  unfold DriveUnit.handOff
  dsimp only
  split
  next status => exact h.putPart rfl (by rw [status]; nofun)
  next status =>
    split
    · exact h
    · exact h.enqueue _ (.inl status)
  next status => exact h.putPart rfl (by rw [status]; nofun)
  next status => exact h.putPart rfl (by rw [status]; nofun)

theorem DriveUnit.Sound.handSafeValues (h : d.Sound enabled) (i : Image) : (d.handSafeValues i).Sound enabled := by
  unfold DriveUnit.handSafeValues
  refine List.foldlRecOn allPoints _ h fun u hu p _ => ?_
  dsimp only
  split
  · exact hu.handOff _ _ _
  · exact hu

theorem DriveUnit.Sound.clear (h : d.Sound enabled) (retries : Nat) {p : Fin 64}
    (faulted : (d.part p).status = .faulted) : (d.clear retries p).Sound enabled :=
  h.enqueue _ (.inr faulted)

/-! ### The echo table -/

theorem DriveUnit.entryOf_eq_some {p : Fin 64} {t : Byte} {e : EchoEntry} (h : d.entryOf p t = some e) :
    e ∈ d.echoes ∧ e.point = p ∧ e.tag = t := by
  have found := List.find?_some h
  simp only [Bool.and_eq_true, beq_iff_eq] at found
  exact ⟨List.mem_of_find?_eq_some h, found⟩

/-- The echo entry of a point is the only one of that point. -/
theorem DriveUnit.Sound.entry_unique (h : d.Sound enabled) {e f : EchoEntry} (he : e ∈ d.echoes) (hf : f ∈ d.echoes)
    (same : f.point = e.point) : f = e := by
  obtain ⟨-, -, -, points, -⟩ := h
  exact List.inj_on_of_nodup_map points hf he same

/-- Without an entry the table holds the entries of the other points. -/
theorem DriveUnit.Sound.mem_dropEntry (h : d.Sound enabled) {e : EchoEntry} (he : e ∈ d.echoes) (q : Fin 64) :
    q ∈ (d.dropEntry e.point e.tag).echoes.map EchoEntry.point ↔ q ≠ e.point ∧ (d.part q).status = .inFlight := by
  obtain ⟨-, -, -, -, -, flying, -⟩ := id h
  rw [← flying]
  constructor
  · intro hq
    obtain ⟨f, hf, rfl⟩ := List.mem_map.mp hq
    obtain ⟨held, kept⟩ := List.mem_filter.mp hf
    refine ⟨fun same => ?_, List.mem_map_of_mem held⟩
    cases h.entry_unique he held same
    simp at kept
  · rintro ⟨other, hq⟩
    obtain ⟨f, hf, rfl⟩ := List.mem_map.mp hq
    exact List.mem_map_of_mem (List.mem_filter.mpr ⟨hf, by simp [other]⟩)

/-- The drive unit when the apply of an entry is settled: the entry goes and the point is FAULTED, re-queued, or IDLE with
its target confirmed. -/
theorem DriveUnit.Sound.settle (h : d.Sound enabled) {e : EchoEntry} (he : e ∈ d.echoes) {u : DriveUnit} {x : DrivePart}
    (echoes : u.echoes = (d.dropEntry e.point e.tag).echoes)
    (part : ∀ q, u.part q = if q = e.point then x else d.part q)
    (now : u.queue = d.queue ∧ (x.status = .faulted ∨ x.status = .idle ∧ x.confirmed = some x.target) ∨
      u.queue = d.queue ++ [e.point] ∧ x.status = .queued) : u.Sound enabled := by
  have left := h.mem_dropEntry he
  obtain ⟨once, queued, few, points, tags, flying, idle⟩ := h
  have airborne : (d.part e.point).status = .inFlight := (flying _).mp (List.mem_map_of_mem he)
  have sub : (d.dropEntry e.point e.tag).echoes.Sublist d.echoes := List.filter_sublist
  have notQueued : e.point ∉ d.queue := fun hq => by rw [queued, airborne] at hq; cases hq
  have grounded : x.status ≠ .inFlight := by
    obtain ⟨-, f | ⟨f, -⟩⟩ | ⟨-, f⟩ := now <;> rw [f] <;> nofun
  refine ⟨?_, fun q => ?_, echoes ▸ sub.length_le.trans few, echoes ▸ points.sublist (sub.map _),
    echoes ▸ tags.sublist (sub.map _), fun q => ?_, fun q en => ?_⟩
  · obtain ⟨queue, -⟩ | ⟨queue, -⟩ := now
    · rw [queue]; exact once
    · rw [queue]
      exact List.nodup_append.mpr ⟨once, List.nodup_singleton _, fun a ha b hb same =>
        notQueued (List.mem_singleton.mp hb ▸ same ▸ ha)⟩
  · rw [part]
    obtain ⟨queue, status⟩ | ⟨queue, status⟩ := now
    · rw [queue, queued]
      split
      next same =>
        rw [same, airborne]
        obtain f | ⟨f, -⟩ := status <;> rw [f] <;> simp
      next => rfl
    · rw [queue, List.mem_append, List.mem_singleton, queued]
      split
      next same => simp [same, status]
      next other => simp [other]
  · rw [echoes, left, part]
    split
    next same => simp [same, grounded]
    next other => simp [other]
  · rw [part]
    split
    · intro still
      obtain ⟨-, f | ⟨-, c⟩⟩ | ⟨-, f⟩ := now
      · rw [still] at f; cases f
      · exact c
      · rw [still] at f; cases f
    · exact idle q en

theorem DriveUnit.Sound.confirm (h : d.Sound enabled) {e : EchoEntry} (he : e ∈ d.echoes) :
    (d.confirm e).Sound enabled := by
  unfold DriveUnit.confirm
  dsimp only
  split
  next same =>
    exact h.settle he rfl (fun q => DriveUnit.part_putPart _ _ _ _) (.inl ⟨rfl, .inr ⟨rfl, congrArg some same.symm⟩⟩)
  next => exact h.settle he rfl (fun q => DriveUnit.part_enqueue _ _ _ _) (.inr ⟨rfl, rfl⟩)

theorem DriveUnit.Sound.retry (h : d.Sound enabled) {e : EchoEntry} (he : e ∈ d.echoes) : (d.retry e).Sound enabled :=
  h.settle he rfl (fun _ => DriveUnit.part_enqueue _ _ _ _) (.inr ⟨rfl, rfl⟩)

theorem DriveUnit.Sound.fault (h : d.Sound enabled) {e : EchoEntry} (he : e ∈ d.echoes) : (d.fault e).Sound enabled :=
  h.settle he rfl (fun _ => DriveUnit.part_putPart _ _ _ _) (.inl ⟨rfl, .inl rfl⟩)

theorem DriveUnit.part_dispatchHead (now : Time) (timeout : Nat) (p q : Fin 64) :
    (d.dispatchHead now timeout p).part q =
      if q = p then { d.part p with status := .inFlight, lastTag := d.nextTag } else d.part q :=
  PerPoint.at_put d.parts p q _

/-- A dispatch moves the head of the queue to the echo table under a tag that no entry holds (R121, R122). -/
theorem DriveUnit.Sound.dispatchHead (h : d.Sound enabled) (now : Time) (timeout : Nat) {p : Fin 64}
    {rest : List (Fin 64)} (head : d.queue = p :: rest) (room : d.echoes.length < 8) :
    (d.dispatchHead now timeout p).Sound enabled := by
  obtain ⟨once, queued, -, points, tags, flying, idle⟩ := h
  obtain ⟨j, -, tag, free, -⟩ := d.nextTag_isFirst room
  rw [← tag] at free
  have waiting : (d.part p).status = .queued := (queued p).mp (head ▸ List.mem_cons_self)
  rw [head] at once
  obtain ⟨gone, once⟩ := List.nodup_cons.mp once
  have tail : (d.dispatchHead now timeout p).queue = rest := by rw [DriveUnit.dispatchHead, head]; rfl
  have echoes : ∀ {α : Type} (f : EchoEntry → α), (d.dispatchHead now timeout p).echoes.map f =
      d.echoes.map f ++ [f ⟨p, d.nextTag, (d.part p).target, after now (timeout * Config.unitsPerMs)⟩] :=
    fun f => by rw [DriveUnit.dispatchHead, List.map_append]; rfl
  refine ⟨tail ▸ once, fun q => ?_, ?_, ?_, ?_, fun q => ?_, fun q en => ?_⟩
  · rw [tail, DriveUnit.part_dispatchHead]
    split
    next same => simp [same, gone]
    next other => rw [← queued, head, List.mem_cons, or_iff_right other]
  · simp only [DriveUnit.dispatchHead, List.length_append, List.length_singleton]
    omega
  · rw [echoes]
    refine List.nodup_append.mpr ⟨points, List.nodup_singleton _, fun a ha b hb same => ?_⟩
    rw [List.mem_singleton.mp hb] at same
    rw [same, flying, waiting] at ha
    cases ha
  · rw [echoes]
    refine List.nodup_append.mpr ⟨tags, List.nodup_singleton _, fun a ha b hb same => ?_⟩
    obtain ⟨e, he, rfl⟩ := List.mem_map.mp ha
    exact free e he (same.trans (List.mem_singleton.mp hb))
  · rw [echoes, List.mem_append, List.mem_singleton, flying, DriveUnit.part_dispatchHead]
    split
    next same => simp [same]
    next other => simp [other]
  · rw [DriveUnit.part_dispatchHead]
    split
    · nofun
    · exact idle q en

/-- An apply that is settled, like one that is dispatched, is not of a FAULTED point. -/
theorem DriveUnit.Sound.entry_not_faulted (h : d.Sound enabled) {e : EchoEntry} (he : e ∈ d.echoes) {p : Fin 64}
    (faulted : (d.part p).status = .faulted) : p ≠ e.point := by
  rintro rfl
  obtain ⟨-, -, -, -, -, flying, -⟩ := h
  rw [(flying _).mp (List.mem_map_of_mem he)] at faulted
  cases faulted

theorem DriveUnit.part_reinit (i : Image) (d : DriveUnit) (p : Fin 64) :
    (d.reinit i).part p = reinitPart i.global.echoRetries (i.points.at p) (d.part p) :=
  PerPoint.at_tabulate _ p

theorem DriveUnit.reinit_sound (i : Image) (d : DriveUnit) (all : ∀ p, enabled p → (i.points.at p).enabled = true) :
    (d.reinit i).Sound enabled := by
  have queue : (d.reinit i).queue = allPoints.filter fun p => (i.points.at p).enabled := rfl
  have echoes : (d.reinit i).echoes = [] := rfl
  refine ⟨?_, fun p => ?_, by simp [echoes], by simp [echoes], by simp [echoes], fun p => ?_, fun p en => ?_⟩
  · rw [queue]
    exact (List.nodup_finRange 64).filter _
  · rw [queue, DriveUnit.part_reinit, reinitPart]
    simp [List.mem_filter, mem_allPoints]
  · rw [echoes, DriveUnit.part_reinit, reinitPart]
    simp only [List.map_nil, List.not_mem_nil, false_iff]
    split <;> nofun
  · rw [DriveUnit.part_reinit, reinitPart, if_pos (all p en)]
    nofun

end

end Sys2Proof.Machine

/-! What the owners of requests, the link units and the drive path come to in named changes (Table 8.1, R136, R137). -/

namespace Sys2Proof.Machine

theorem Mode.operate_of_ne_config {m : Mode} (h : m ≠ .config) : m = .operate := by
  cases m with
  | config => exact absurd rfl h
  | operate => rfl

theorem Mode.config_of_ne_operate {m : Mode} (h : m ≠ .operate) : m = .config := by
  cases m with
  | config => rfl
  | operate => exact absurd rfl h

theorem State.slotOpen_iff {s : State} : s.slotOpen = true ↔ ∃ p, (s.voteOf p).slots ≠ [] := by
  simp [State.slotOpen, mem_allPoints]

theorem State.joined_isEmpty_iff {s : State} : s.joined.isEmpty = true ↔ ∀ l, (s.laneState l).joined = false := by
  simp [LaneSet.isEmpty_iff]

section
variable {A : ReqKind → Prop} {P : State → Prop} (k : Kept A P) {s : State}
include k

theorem Kept.submit (sub : Option Lane) (b : RecordBody) (h : P s) : P (s.submit sub b) := k.consequences.submit sub b h

theorem Kept.notify (r : LaneSet) (n : Notice) (h : P s) : P (s.notify r n) := k.consequences.notify r n h

/-! ### Lanes -/

theorem Kept.acceptJoin (l : Lane) (operate : s.cu.mode = .operate) (down : s.laneState l = .down)
    (run : (s.link l.link).state = .run) (h : P s) : P (s.acceptJoin l).state := by
  have entered : ∀ new cause, new = .member ∨ (new = .probation ∧ ∃ m, s.laneState m = .member) →
      s.MayMove l { s.lane l with
        strikes := 0, cleanRun := 0, credit := 0, beatSeq := none, beatDeadline := some s.beatDeadline } new cause := by
    intro new cause backed
    refine ⟨rfl, by rw [down]; nofun, ?_, ?_, fun _ => .inr ⟨operate, run⟩, ?_, fun sound => ?_⟩
    · obtain rfl | ⟨rfl, -⟩ := backed <;> nofun
    · rw [down]
      obtain rfl | ⟨rfl, -⟩ := backed <;> nofun
    · obtain rfl | ⟨-, member⟩ := backed
      · nofun
      · exact fun _ => member
    · obtain ⟨-, -, -, strikes, run, credit, -⟩ := sound
      obtain rfl | ⟨rfl, -⟩ := backed
      · exact (LaneEntry.sound_of_member rfl).mpr
          ⟨rfl, rfl, Nat.zero_lt_of_lt strikes, Nat.zero_lt_of_lt run, rfl, Nat.zero_lt_of_lt credit⟩
      · exact (LaneEntry.sound_of_probation rfl).mpr
          ⟨rfl, rfl, Nat.zero_lt_of_lt credit, ⟨rfl, Nat.zero_lt_of_lt strikes⟩, rfl, Nat.zero_lt_of_lt run⟩
  unfold State.acceptJoin
  dsimp only
  split
  next => exact k.consequences.move (entered _ _ (.inl rfl)) h
  next notFirst =>
    refine k.consequences.move (entered _ _ (.inr ⟨rfl, ?_⟩)) h
    rw [beq_iff_eq, State.memberCount_eq_zero_iff] at notFirst
    push Not at notFirst
    exact notFirst

theorem Kept.serveJoin (l : Lane) (payload : List Byte) (h : P s) : P (serveJoin l payload s).state := by
  unfold Machine.serveJoin
  dsimp only
  split
  · exact h
  split
  · exact h
  next notConfig =>
  split
  · exact h
  · exact h
  · exact h
  · exact h
  next down =>
    split
    · exact h
    next run =>
    split
    · exact h
    exact k.acceptJoin l (Mode.operate_of_ne_config notConfig) down (not_not.mp run) h

theorem Kept.serveLeave (l : Lane) (payload : List Byte) (h : P s) : P (serveLeave l payload s).state := by
  unfold Machine.serveLeave
  split
  · exact h
  split
  next joined =>
    refine k.consequences.moveLane_departed _ (fun absent => ?_) (.inl rfl) (fun down => ?_) h
    · rw [absent] at joined; cases joined
    · rw [← down] at joined; cases joined
  next => exact h

theorem Kept.takeBeat (l : Lane) (health : Health) (h : P s) : P (s.takeBeat l health) := by
  unfold State.takeBeat
  split
  · split
    next joined =>
      refine k.consequences.counts (by rfl) (fun sound => ?_) h
      obtain ⟨apart, -, rest⟩ := sound
      exact ⟨apart, iff_of_true rfl joined, rest⟩
    next => exact h
  · exact k.consequences.depart _ _ h

theorem Kept.serveBeat (l : Lane) (payload : List Byte) (h : P s) : P (serveBeat l payload s).state := by
  unfold Machine.serveBeat
  dsimp only
  split
  · exact h
  · exact k.consequences.counts (by rfl) id (k.takeBeat _ _ h)

theorem Kept.expireBeat (l : Lane) (h : P s) : P (s.expireBeat l) := by
  unfold State.expireBeat
  split
  · exact k.consequences.depart _ _ h
  · exact h

theorem Kept.expireHold (l : Lane) (h : P s) : P (s.expireHold l) := by
  unfold State.expireHold
  split
  next excluded =>
    exact k.consequences.moveLane_departed _ (by rw [excluded.1]; nofun) (.inl rfl) (by rw [excluded.1]; nofun) h
  next => exact h

/-! ### Authority and the restart collection -/

theorem Kept.serveClaim (l : Lane) (payload : List Byte) (h : P s) : P (serveClaim l payload s).state := by
  unfold Machine.serveClaim
  dsimp only
  split
  · exact h
  split
  · exact h
  split
  · exact h
  next member =>
  split
  next free => exact k.change _ _ (.claim s l (not_not.mp member) free) h
  next holder held =>
    split
    · exact h
    next other =>
    split
    · exact h
    next fresh =>
    exact k.change _ _ (.queueClaim s l (not_not.mp member) (by rw [held]; nofun)
      (by rw [held]; exact fun same => other (Option.some.inj same)) fresh) h

theorem Kept.serveYield (l : Lane) (payload : List Byte) (h : P s) : P (serveYield l payload s).state := by
  unfold Machine.serveYield
  dsimp only
  split
  · exact h
  split
  · exact h
  next holds =>
  split
  · exact h
  exact k.change _ _ (.yield s l (not_not.mp holds)) h

theorem Kept.serveWithdraw (l : Lane) (payload : List Byte) (h : P s) : P (serveWithdraw l payload s).state := by
  unfold Machine.serveWithdraw
  split
  · exact h
  split
  · exact k.change _ _ (.withdraw s l) h
  · exact h

theorem Kept.serveRestart (l : Lane) (payload : List Byte) (allowed : A .restart) (h : P s) :
    P (serveRestart l payload s).state := by
  unfold Machine.serveRestart
  dsimp only
  split
  · exact h
  split
  · exact h
  next notConfig =>
  split
  · exact h
  next member =>
  split
  · exact h
  have voted := k.change _ _ (.vote s l (not_not.mp member)) h
  split
  · exact k.change _ _ (.restart _ _ _ (Mode.operate_of_ne_config notConfig) allowed) voted
  · exact voted

theorem Kept.serveMaintenanceRestart (payload : List Byte) (allowed : A .restart) (h : P s) :
    P (serveMaintenanceRestart payload s).state := by
  unfold Machine.serveMaintenanceRestart
  split
  · exact h
  split
  · exact h
  next notConfig => exact k.change _ _ (.restart _ _ _ (Mode.operate_of_ne_config notConfig) allowed) h

theorem Kept.expireCollection (h : P s) : P s.expireCollection := by
  unfold State.expireCollection
  split
  · exact h
  split
  · exact k.notify _ _ (k.change _ _ (.endVote s) h)
  · exact h

/-! ### Points and the journal -/

theorem Kept.servePointClear (link : ReqLink) (payload : List Byte) (allowed : A .pointClear) (h : P s) :
    P (servePointClear link payload s).state := by
  unfold Machine.servePointClear
  split
  · exact h
  split
  · exact h
  split
  · exact h
  next p _ =>
  split
  · exact h
  next faulted =>
    unfold State.clearPoint
    exact k.submit _ _ (k.notify _ _ (k.change _ _ (.clear s p (not_not.mp faulted) allowed) h))

theorem Kept.rearm (sub : Option Lane) (h : P s) : P (s.rearm sub) := by
  unfold State.rearm
  exact k.submit sub _ (k.change _ _ (.rearm s) h)

theorem Kept.serveJournalRearm (link : ReqLink) (payload : List Byte) (h : P s) :
    P (serveJournalRearm link payload s).state := by
  unfold Machine.serveJournalRearm
  split
  · exact h
  split
  · exact h
  split
  · exact h
  · exact k.rearm (senderOf link) h

/-! ### Configuration sessions -/

theorem Kept.serveCfgOpen (payload : List Byte) (h : P s) : P (serveCfgOpen payload s).state := by
  unfold Machine.serveCfgOpen
  dsimp only
  split
  · exact h
  split
  · exact h
  next operate =>
  split
  · exact h
  next free =>
    obtain ⟨left, closed⟩ := not_or.mp free
    rw [Bool.not_eq_false, State.joined_isEmpty_iff] at left
    rw [State.slotOpen_iff] at closed
    push Not at closed
    exact k.change _ _ (.openSession s operate left closed) h

theorem Kept.serveCfgWrite (payload : List Byte) (h : P s) : P (serveCfgWrite payload s).state := by
  unfold Machine.serveCfgWrite
  dsimp only
  split
  · exact h
  split
  · exact h
  next notOperate =>
  have config := Mode.config_of_ne_operate notOperate
  split
  · split
    · exact h
    next g read =>
      obtain ⟨-, inRange⟩ := readGlobal_canonical read
      exact k.change _ _ (.write s _ config (fun staging => ⟨inRange, staging.2⟩) (.inr inRange)) h
  · split
    · exact h
    next p _ =>
    split
    · exact h
    next c read =>
      obtain ⟨-, inRange⟩ := readPointRecord_canonical read
      refine k.change _ _ (.write s _ config (fun staging => ⟨staging.1, fun q => ?_⟩) (.inl rfl)) h
      dsimp only
      rw [PerPoint.at_put]
      split
      · exact inRange
      · exact staging.2 q

theorem Kept.serveCfgCommit (payload : List Byte) (allowed : A .cfgCommit) (h : P s) :
    P (serveCfgCommit payload s).state := by
  unfold Machine.serveCfgCommit
  split
  · exact h
  split
  · exact h
  next notOperate =>
  split
  · exact h
  next valid => exact k.change _ _ (.commit s (Mode.config_of_ne_operate notOperate) valid allowed) h

theorem Kept.serveCfgAbort (payload : List Byte) (h : P s) : P (serveCfgAbort payload s).state := by
  unfold Machine.serveCfgAbort
  dsimp only
  split
  · exact h
  split
  · exact h
  next notOperate =>
  split
  · exact h
  next committed =>
    exact k.change _ _ (.abort s (Mode.config_of_ne_operate notOperate) ((Bool.not_eq_false _).mp committed)) h

theorem Kept.serveStatus (payload : List Byte) (h : P s) : P (serveStatus payload s).state := by
  unfold Machine.serveStatus
  split
  · exact h
  dsimp only
  split
  · refine k.change _ _ (.links s _ fun n _ run => ?_) h
    rw [PerLink.get_map]
    exact run
  · exact h

/-! ### Requests -/

theorem Kept.serveKind (kind : ReqKind) (link : ReqLink) (payload : List Byte) (allowed : A kind) (h : P s) :
    P (serveKind kind link payload s).state := by
  cases link with
  | lane l =>
    cases kind with
    | propose => exact k.servePropose l payload h
    | join => exact k.serveJoin l payload h
    | leave => exact k.serveLeave l payload h
    | beat => exact k.serveBeat l payload h
    | claim => exact k.serveClaim l payload h
    | yield => exact k.serveYield l payload h
    | withdraw => exact k.serveWithdraw l payload h
    | restart => exact k.serveRestart l payload allowed h
    | pointRead => rw [Machine.serveKind, servePointRead_state]; exact h
    | pointClear => exact k.servePointClear (.lane l) payload allowed h
    | journalRead => rw [Machine.serveKind, serveJournalRead_state]; exact h
    | journalRearm => exact k.serveJournalRearm (.lane l) payload h
    | cfgOpen => exact h
    | cfgWrite => exact h
    | cfgRead => exact h
    | cfgCommit => exact h
    | cfgAbort => exact h
    | status => exact h
  | ml =>
    cases kind with
    | propose => exact h
    | join => exact h
    | leave => exact h
    | beat => exact h
    | claim => exact h
    | yield => exact h
    | withdraw => exact h
    | restart => exact k.serveMaintenanceRestart payload allowed h
    | pointRead => rw [Machine.serveKind, servePointRead_state]; exact h
    | pointClear => exact k.servePointClear .ml payload allowed h
    | journalRead => rw [Machine.serveKind, serveJournalRead_state]; exact h
    | journalRearm => exact k.serveJournalRearm .ml payload h
    | cfgOpen => exact k.serveCfgOpen payload h
    | cfgWrite => exact k.serveCfgWrite payload h
    | cfgRead => rw [Machine.serveKind, serveCfgRead_state]; exact h
    | cfgCommit => exact k.serveCfgCommit payload allowed h
    | cfgAbort => exact k.serveCfgAbort payload h
    | status => exact k.serveStatus payload h

theorem Kept.serve (link : ReqLink) (r : Request) (allowed : ∀ kind, requestKind r.kind = some kind → A kind)
    (h : P s) : P (serve link r s).state := by
  unfold Machine.serve
  split
  · exact h
  next kind known => exact k.serveKind kind link r.payload (allowed kind known) h

/-- A link unit replaced by one that keeps a joined lane's link in RUN. -/
theorem Kept.putLink (l : Link) (u : LinkUnit)
    (keeps : ∀ n : Lane, n.link = l → (s.laneState n).joined = true → (s.link l).state = .run → u.state = .run)
    (h : P s) : P (s.putLink l u) := by
  refine k.change _ _ (.links s _ fun n joined run => ?_) h
  rw [PerLink.get_set]
  split
  next same => exact keeps n same joined (same ▸ run)
  next => exact run

end

end Sys2Proof.Machine

/-! What the link units and the drive path come to in named changes (R121 to R130, R136, R137, R174 to R183), and the
theorem over all commands: what every change keeps, every command but those of RESET_N keeps. -/

namespace Sys2Proof.Machine

/-! ### What the owners of requests leave of the links -/

theorem State.commitLane_base (s : State) (l : Lane) : s.SameBase (s.commitLane l) := by
  unfold State.commitLane
  dsimp only
  split
  · exact s.putLane_base _ _
  · refine State.SameBase.trans ?_ (State.submit_base _ _ _)
    exact ⟨rfl, rfl, rfl, rfl, rfl, rfl⟩

theorem serve_ml_lu (r : Request) (s : State) :
    (serve .ml r s).state.lu = s.lu ∨ (serve .ml r s).state.lu = s.lu.map LinkUnit.countsCleared := by
  have session : ∀ u : State, u.lu = s.lu → (u.reevaluate none).lu = s.lu :=
    fun u same => (u.reevaluate_base none).lu.trans same
  unfold serve
  split
  · exact .inl rfl
  next kind _ =>
  cases kind with
  | propose => exact .inl rfl
  | join => exact .inl rfl
  | leave => exact .inl rfl
  | beat => exact .inl rfl
  | claim => exact .inl rfl
  | yield => exact .inl rfl
  | withdraw => exact .inl rfl
  | restart => exact .inl (serveMaintenanceRestart_base s _).lu
  | pointRead => exact .inl (congrArg State.lu (servePointRead_state s _))
  | pointClear => exact .inl (servePointClear_base s _ _).lu
  | journalRead => exact .inl (congrArg State.lu (serveJournalRead_state s _ _))
  | journalRearm => exact .inl (serveJournalRearm_base s _ _).lu
  | cfgOpen =>
    left
    change (serveCfgOpen r.payload s).state.lu = s.lu
    unfold serveCfgOpen
    dsimp only
    repeat' split
    · rfl
    · rfl
    · rfl
    · exact session _ rfl
  | cfgWrite =>
    left
    change (serveCfgWrite r.payload s).state.lu = s.lu
    unfold serveCfgWrite
    dsimp only
    repeat' split
    all_goals rfl
  | cfgRead => exact .inl (congrArg State.lu (serveCfgRead_state s _))
  | cfgCommit =>
    left
    change (serveCfgCommit r.payload s).state.lu = s.lu
    unfold serveCfgCommit
    repeat' split
    · rfl
    · rfl
    · rfl
    · unfold State.commit
      refine session _ ?_
      rw [State.submit_lu, (State.commitLane_base _ _).lu, (State.commitLane_base _ _).lu,
        (State.commitLane_base _ _).lu]
      rfl
  | cfgAbort =>
    left
    change (serveCfgAbort r.payload s).state.lu = s.lu
    unfold serveCfgAbort
    dsimp only
    repeat' split
    · rfl
    · rfl
    · rfl
    · exact session _ rfl
  | status =>
    change (serveStatus r.payload s).state.lu = s.lu ∨ (serveStatus r.payload s).state.lu = _
    unfold serveStatus
    split
    · exact .inl rfl
    · dsimp only
      split
      · exact .inr rfl
      · exact .inl rfl

/-- A request served leaves every link as it was but for the two counts that STATUS may clear. -/
theorem serve_lu (link : ReqLink) (r : Request) (s : State) :
    (serve link r s).state.lu = s.lu ∨ (serve link r s).state.lu = s.lu.map LinkUnit.countsCleared := by
  cases link with
  | lane l => exact .inl (serve_lane_base s l r).lu
  | ml => exact serve_ml_lu r s

theorem serve_link (link : ReqLink) (r : Request) (s : State) (l : Link) :
    (serve link r s).state.link l = s.link l ∨ (serve link r s).state.link l = (s.link l).countsCleared := by
  obtain same | cleared := serve_lu link r s
  · exact .inl (congrArg (PerLink.get · l) same)
  · exact .inr ((congrArg (PerLink.get · l) cleared).trans (PerLink.get_map _ _ _))

theorem serve_waiting (link : ReqLink) (r : Request) (s : State) (l : Link) :
    ((serve link r s).state.link l).waiting = (s.link l).waiting := by
  obtain same | cleared := serve_link link r s l
  · rw [same]
  · rw [cleared]; rfl

/-! ### Departed lanes -/

theorem State.depart_not_joined (s : State) (l : Lane) (cause : LaneCause) :
    ((s.depart l cause).laneState l).joined = false := by
  unfold State.depart
  split
  next probation =>
    obtain ⟨⟨state, -⟩, -⟩ := s.moveLane_hasLeft l .down cause (by rw [probation]; rfl) (.inl rfl)
    rw [state]; rfl
  next member =>
    obtain ⟨⟨state, -⟩, -⟩ := s.moveLane_hasLeft l .excluded cause (by rw [member]; rfl) (.inr rfl)
    rw [state]; rfl
  next notProbation notMember =>
    cases state : s.laneState l with
    | probation => exact absurd state notProbation
    | member => exact absurd state notMember
    | absent => rfl
    | down => rfl
    | excluded => rfl

/-- The requests that wait on a link are of kinds that `A` allows. -/
def State.WaitingAllowed (A : ReqKind → Prop) (link : ReqLink) (s : State) : Prop :=
  ∀ r ∈ (s.link link.link).waiting, ∀ kind, requestKind r.kind = some kind → A kind

section
variable {A : ReqKind → Prop} {P : State → Prop} (k : Kept A P) {s : State}
include k

/-! ### Requests taken -/

theorem Kept.takeWaiting (n : Nat) (link : ReqLink) (allowed : s.WaitingAllowed A link) (h : P s) :
    P (s.takeWaiting n link) := by
  induction n generalizing s with
  | zero => exact h
  | succ n ih =>
    unfold State.takeWaiting
    split
    · exact h
    next r rest waiting =>
    split
    · refine ih (fun q hq => ?_) (k.putLink _ _ (fun _ _ _ => id) (k.serve link r (allowed r (by simp [waiting])) h))
      rw [State.queueReply, State.link_putLink_self] at hq
      dsimp only at hq
      rw [serve_waiting, waiting] at hq
      exact allowed q (by rw [waiting]; exact List.mem_cons_of_mem _ hq)
    · exact h

theorem Kept.takeRequests (link : ReqLink) (allowed : s.WaitingAllowed A link) (h : P s) : P (s.takeRequests link) :=
  k.takeWaiting _ link allowed h

/-! ### Links that fall -/

theorem Kept.linkDown (l : Link) (cause : LinkCause) (h : P s) : P (s.linkDown l cause) := by
  have off : ∀ u : State, P u → (∀ n : Lane, n.link = l → (u.laneState n).joined = true → (u.link l).state ≠ .run) →
      P (u.putLink l ((s.link l).toOff s.time)) := fun u hu gone =>
    k.putLink l _ (fun n same joined run => absurd run (gone n same joined)) hu
  unfold State.linkDown
  dsimp only
  split
  next =>
    refine k.submit _ _ ?_
    split
    next =>
      unfold State.linkLost
      split
      next n lane =>
        rw [State.putLink_depart]
        have here := (Link.lane?_eq_some).mp lane
        refine off _ (k.consequences.depart n .linkLost h) fun m same joined => ?_
        cases Lane.link_injective (same.trans here)
        rw [State.depart_not_joined] at joined
        cases joined
      next noLane =>
        refine off s h fun n same => ?_
        rw [← same, Lane.link_lane?] at noLane
        cases noLane
    next notRun => exact off s h fun _ _ _ => notRun
  next => exact h

theorem Kept.withFrame (l : Link) (f : State → State)
    (inner : P (s.putLink l ((s.link l).heard s.time)) → P (f (s.putLink l ((s.link l).heard s.time)))) (h : P s) :
    P (s.withFrame l f) := by
  unfold State.withFrame
  dsimp only
  split
  · split
    · exact k.linkDown l _ h
    · exact inner (k.putLink l _ (fun _ _ _ => id) h)
  · exact h

theorem Kept.receive (link : ReqLink) (r : Request) (known : ∀ kind, requestKind r.kind = some kind → A kind)
    (allowed : s.WaitingAllowed A link) (h : P s) : P (s.receive link r) := by
  refine k.withFrame link.link _ (fun heard => ?_) h
  refine k.takeRequests link (fun q hq => ?_) (k.putLink _ _ (fun _ _ _ => id) heard)
  rw [State.bufferRequest, State.link_putLink_self, State.link_putLink_self] at hq
  obtain old | new := List.mem_append.mp hq
  · exact allowed q old
  · cases List.mem_singleton.mp new
    exact known

theorem Kept.countDiscard (l : Link) (h : P s) : P (s.countDiscard l) := k.putLink l _ (fun _ _ _ => id) h

theorem Kept.grantReceived (l : Link) (h : P s) : P (s.grantReceived l) := by
  unfold State.grantReceived
  dsimp only
  split
  · exact h
  · exact h
  · exact k.putLink l _ (fun _ _ _ _ => rfl) h
  · split
    · exact k.linkDown l _ h
    · exact k.putLink l _ (fun _ _ _ => id) h

theorem Kept.idleReceived (l : Link) (h : P s) : P (s.idleReceived l) := by
  unfold State.idleReceived
  dsimp only
  split
  · exact h
  next waking => exact k.putLink l _ (fun _ _ _ run => by rw [waking] at run; cases run) h
  · exact k.putLink l _ (fun _ _ _ => id) h
  · exact k.putLink l _ (fun _ _ _ => id) h

theorem Kept.expireBackoff (l : Link) (h : P s) : P (s.expireBackoff l) := by
  unfold State.expireBackoff
  dsimp only
  split
  next due => exact k.putLink l _ (fun _ _ _ run => by rw [due.1] at run; cases run) h
  · exact h

theorem Kept.expireHandshake (l : Link) (h : P s) : P (s.expireHandshake l) := by
  unfold State.expireHandshake
  split
  · exact k.linkDown l _ h
  · exact h

theorem Kept.expireSilence (l : Link) (h : P s) : P (s.expireSilence l) := by
  unfold State.expireSilence
  split
  · exact k.linkDown l _ h
  · exact h

theorem Kept.enableLink (n : Lane) (h : P s) : P (s.enableLink n) := by
  unfold State.enableLink
  dsimp only
  split
  · exact k.putLink _ _ (fun _ _ _ => id) h
  · exact h

theorem Kept.disableLink (n : Lane) (h : P s) : P (s.disableLink n) := by
  unfold State.disableLink
  dsimp only
  split
  · split
    · exact k.linkDown _ _ (k.putLink _ _ (fun _ _ _ => id) h)
    next notUp => exact k.putLink _ _ (fun _ _ _ run => absurd (by rw [run]; rfl) notUp) h
  · exact h

/-! ### Frames sent -/

theorem Kept.startReply (l : Link) (h : P s) : P (s.startReply l) := by
  unfold State.startReply
  dsimp only
  split
  · exact h
  · split
    · exact k.putLink l _ (fun _ _ _ => id) h
    · exact h

theorem Kept.startNotice (n : Lane) (h : P s) : P (s.startNotice n) := by
  unfold State.startNotice
  dsimp only
  split
  · exact h
  next x rest head =>
    split
    · exact k.change _ _ (.sent (s.putLink n.link _) n x rest head) (k.putLink _ _ (fun _ _ _ => id) h)
    · exact h

theorem Kept.endFrame (l : Link) (allowed : ∀ link, s.WaitingAllowed A link) (h : P s) : P (s.endFrame l) := by
  unfold State.endFrame
  dsimp only
  split
  · exact h
  · have ended := k.putLink l { s.link l with sending := none, replies := (s.link l).replies.tail }
      (fun _ _ _ => id) h
    split
    next link here =>
      refine k.takeRequests link (fun q hq => ?_) ended
      rw [State.link_putLink] at hq
      split at hq
      next same => rw [← same] at hq; exact allowed link q hq
      next => exact allowed link q hq
    next => exact ended
  · exact k.putLink l _ (fun _ _ _ => id) h

/-! ### The drive path -/

theorem Kept.dispatchHead (h : P s) : P s.dispatchHead := by
  unfold State.dispatchHead
  split
  · exact h
  next p rest head =>
  split
  next may =>
    obtain ⟨-, -, room⟩ := s.mayDispatch_iff.mp may
    unfold State.dispatchPoint
    refine k.change _ _ (.drive (s.putLink .dl _) _ (fun sound => ?_) fun sound q faulted => ?_)
      (k.putLink .dl { s.link .dl with
        credit := (s.link .dl).credit - 1, sending := some (.apply p s.du.nextTag (s.driveOf p).target) }
        (fun _ _ _ => id) h)
    · exact DriveUnit.Sound.dispatchHead (s.driveSound_iff.mp sound) _ _ head room
    · have other : q ≠ p := by
        rintro rfl
        obtain ⟨-, queued, -⟩ := s.driveSound_iff.mp sound
        have waiting : (s.du.part q).status = .queued := (queued q).mp (head ▸ List.mem_cons_self)
        have faulted : (s.du.part q).status = .faulted := faulted
        rw [faulted] at waiting
        cases waiting
      exact (DriveUnit.part_dispatchHead _ _ _ _).trans (if_neg other)
  next => exact h

theorem Kept.failApply {e : EchoEntry} (he : e ∈ s.du.echoes) (cause : ApplyCause) (readback : Option Value) (h : P s) :
    P (s.failApply e cause readback) := by
  have apart : s.DriveSound → ∀ p, (s.driveOf p).status = .faulted → p ≠ e.point := fun sound _ faulted =>
    DriveUnit.Sound.entry_not_faulted (s.driveSound_iff.mp sound) he faulted
  unfold State.failApply
  dsimp only
  split
  · refine k.submit _ _ (k.change _ _ (.drive s _ (fun sound => ?_) fun sound p faulted => ?_) h)
    · exact DriveUnit.Sound.retry (s.driveSound_iff.mp sound) he
    · exact (DriveUnit.part_enqueue _ _ _ _).trans (if_neg (apart sound p faulted))
  · refine k.submit _ _ (k.notify _ _ (k.change _ _ (.drive s _ (fun sound => ?_) fun sound p faulted => ?_) h))
    · exact DriveUnit.Sound.fault (s.driveSound_iff.mp sound) he
    · exact (DriveUnit.part_putPart _ _ _ _).trans (if_neg (apart sound p faulted))

theorem Kept.settleEcho {e : EchoEntry} (he : e ∈ s.du.echoes) (status : EchoStatus) (readback : Option Value)
    (h : P s) : P (s.settleEcho e status readback) := by
  unfold State.settleEcho
  split
  · split
    · refine k.change _ _ (.drive s _ (fun sound => ?_) fun sound p faulted => ?_) h
      · exact DriveUnit.Sound.confirm (s.driveSound_iff.mp sound) he
      · have other := DriveUnit.Sound.entry_not_faulted (s.driveSound_iff.mp sound) he faulted
        unfold DriveUnit.confirm
        dsimp only
        split
        · exact (DriveUnit.part_putPart _ _ _ _).trans (if_neg other)
        · exact (DriveUnit.part_enqueue _ _ _ _).trans (if_neg other)
    · exact k.failApply he _ _ h
  · exact k.failApply he _ _ h

theorem Kept.takeEcho (point tag : Byte) (status : EchoStatus) (readback : Option Value) (h : P s) :
    P (s.takeEcho point tag status readback) := by
  unfold State.takeEcho
  split
  next e found =>
    obtain ⟨p, -, entry⟩ := Option.bind_eq_some_iff.mp found
    exact k.settleEcho (DriveUnit.entryOf_eq_some entry).1 status readback h
  next => exact k.submit _ _ h

end

end Sys2Proof.Machine

/-! The theorem over all commands: a property that every change and every closing keeps is kept by every command but those
of RESET_N, and by every step where the power-on states have it. -/

namespace Sys2Proof.Machine

/-- A command that carries a request has it received on its link (R136, R181). -/
theorem exec_of_request {c : Instr} {link : ReqLink} {r : Request} (s : State) (h : c.request? = some (link, r)) :
    exec c s = s.whenPowered (State.receive link r) := by
  cases c with
  | badKind l kind tag payload =>
    have unknown : requestKind kind = none := by
      by_contra known
      rw [Instr.request?, if_neg (by simpa using known)] at h
      cases h
    rw [Instr.request?, unknown] at h
    cases h
    have run : exec (.badKind link kind tag payload) s = execBadKind link kind tag payload s := rfl
    rw [run, execBadKind, unknown]
  | _ => cases h <;> rfl

theorem State.of_whenPowered {s t : State} {f : State → State} (h : s.whenPowered f = .next t) : t = f s ∨ t = s := by
  unfold State.whenPowered at h
  cases h
  split
  · exact .inl rfl
  · exact .inr rfl

/-- Every command but those of RESET_N keeps what every change and every closing keeps. -/
theorem Kept.exec {A : ReqKind → Prop} {P : State → Prop} (k : Kept A P) {c : Instr} {s t : State}
    (notAssert : c ≠ .resetAssert) (notRelease : ∀ f, c ≠ .resetRelease f)
    (known : ∀ link r, c.request? = some (link, r) → ∀ kind, requestKind r.kind = some kind → A kind)
    (waiting : ∀ link, s.WaitingAllowed A link) (h : P s) (next : exec c s = .next t) : P t := by
  have powered : ∀ {f : State → State}, Machine.exec c s = s.whenPowered f → P (f s) → P t := by
    intro f run inner
    obtain rfl | rfl := State.of_whenPowered (run.symm.trans next)
    · exact inner
    · exact h
  cases request : c.request? with
  | some found =>
    obtain ⟨link, r⟩ := found
    exact powered (exec_of_request s request) (k.receive link r (known link r request) (waiting link) h)
  | none =>
    cases c with
    | badKind l kind tag payload =>
      refine powered (show Machine.exec _ s = execBadKind l kind tag payload s from rfl) ?_
      split
      · exact h
      next unknown => rw [Instr.request?, unknown] at request; cases request
    | echo tag payload =>
      refine powered (show Machine.exec _ s = execEcho tag payload s from rfl) (k.withFrame .dl _ (fun heard => ?_) h)
      split
      · exact k.takeEcho _ _ _ _ heard
      · exact k.countDiscard .dl heard
    | dispatch => exact powered rfl (k.dispatchHead h)
    | echoDeadline p tag =>
      refine powered (show Machine.exec _ s = execEchoDeadline p tag s from rfl) ?_
      split
      next e found =>
        split
        · exact k.failApply (DriveUnit.entryOf_eq_some found).1 _ _ h
        · exact h
      · exact h
    | windowExpiry p n => exact powered rfl (k.expireWindow p n h)
    | departureClosing p => exact powered rfl (k.closeDeparted p h)
    | beatTimeout n => exact powered rfl (k.expireBeat n h)
    | holdExpiry n => exact powered rfl (k.expireHold n h)
    | collectionDeadline => exact powered rfl (k.expireCollection h)
    | backoffExpiry l => exact powered rfl (k.expireBackoff l h)
    | handshakeExpiry l => exact powered rfl (k.expireHandshake l h)
    | silenceTimeout l => exact powered rfl (k.expireSilence l h)
    | codeError l => exact powered rfl (k.linkDown l _ h)
    | framingError l how =>
      refine powered (show Machine.exec _ s = execFramingError l how s from rfl) ?_
      cases how with
      | characterOutsideFrame => exact k.linkDown l _ h
      | startInsideFrame => exact k.withFrame l _ (k.linkDown l _) h
      | frameTooLong => exact k.withFrame l _ (k.linkDown l _) h
    | grant l => exact powered rfl (k.grantReceived l h)
    | idleReceived l => exact powered rfl (k.idleReceived l h)
    | abandon l => exact powered rfl (k.withFrame l (fun u => u) id h)
    | discardedFrame l data =>
      refine powered (show Machine.exec _ s = execDiscardedFrame l data s from rfl) ?_
      split
      · exact k.withFrame l _ (k.countDiscard l) h
      · exact h
    | linkEnable n => exact powered rfl (k.enableLink n h)
    | linkDisable n => exact powered rfl (k.disableLink n h)
    | sendReply link => exact powered rfl (k.startReply link.link h)
    | sendNotice n => exact powered rfl (k.startNotice n h)
    | frameSent l => exact powered rfl (k.endFrame l waiting h)
    | resetAssert => exact absurd rfl notAssert
    | resetRelease f => exact absurd rfl (notRelease f)
    | timeUnitTick => exact powered (f := fun u => { u with time := u.time + 1 }) rfl (k.change _ _ (.tick s) h)
    | startNoFreeBuffer l =>
      refine powered (show Machine.exec _ s = execStartNoFreeBuffer l s from rfl) ?_
      split
      · exact k.linkDown l _ h
      · exact h
    | _ => cases request

/-- What every change and every closing keeps, and the power-on states have, every step keeps: it takes a command from the
queue, which the property does not read, and runs it. -/
theorem Kept.step {P : State → Prop} (k : Kept (fun _ => True) P)
    (queue : ∀ (s : State) (q : List Instr), P s → P { s with pending := q })
    (powerOn : ∀ straps q, P (State.powerOn straps q)) (held : ∀ straps q, P (State.held straps q)) {s t : State}
    (h : P s) (next : step s = .next t) : P t := by
  unfold Machine.step at next
  split at next
  · cases next
    exact h
  next c rest _ =>
    have taken := queue s rest h
    by_cases assert : c = .resetAssert
    · subst assert
      cases next
      split
      · exact held _ _
      · exact taken
    by_cases release : ∃ f, c = .resetRelease f
    · obtain ⟨f, rfl⟩ := release
      cases next
      split
      · exact powerOn _ _
      · exact taken
    · exact k.exec assert (not_exists.mp release) (fun _ _ _ _ _ => trivial) (fun _ _ _ _ _ => trivial) taken next

end Sys2Proof.Machine

/-! The power-on state and the held state, block by block (R12, R87, R103, R115, R116, R149, R161, R164, R176, R189). -/

namespace Sys2Proof.Machine

section
variable (straps : LaneSet) (q : List Instr)

/-! ### Readings of the power-on state -/

@[simp] theorem State.laneState_powerOn (l : Lane) :
    (State.powerOn straps q).laneState l = if straps.get l then .down else .absent := by
  cases l <;> rfl

theorem State.link_powerOn (l : Link) :
    (State.powerOn straps q).link l = releasedLink (match l.lane? with | some n => straps.get n | none => true) := by
  cases l <;> rfl

theorem State.link_held (l : Link) : (State.held straps q).link l = stoppedLink := by cases l <;> rfl

theorem State.powerOn_apart (l : Lane) : ((State.powerOn straps q).laneState l).joined = false := by
  rw [State.laneState_powerOn]
  split <;> rfl

/-! ### The invariants at power-on -/

theorem defaultGlobal_inRange : (defaultGlobal straps).InRange := by
  have members : 1 ≤ (if straps.count = 0 then 1 else min 2 straps.count) ∧
      (if straps.count = 0 then 1 else min 2 straps.count) ≤ 3 := by split <;> omega
  refine ⟨members, ?_⟩
  simp only [defaultGlobal]
  decide

theorem defaultImage_inRange : (defaultImage straps).InRange := by
  refine ⟨defaultGlobal_inRange straps, fun p => ?_⟩
  rw [defaultImage, PerPoint.at_replicate]
  exact ⟨(by decide : 1 ≤ 1 ∧ 1 ≤ 3), (by decide : 0 ≤ 32767), (by decide : 1 ≤ 20 ∧ 20 ≤ 255)⟩

theorem powerOn_configSound : (State.powerOn straps q).cu.Sound :=
  ⟨defaultImage_inRange straps, defaultImage_inRange straps, rfl, nofun, nofun⟩

theorem stoppedLink_sound : stoppedLink.Sound := by simp [LinkUnit.Sound, stoppedLink, LinkState.up]

theorem releasedLink_sound (enabled : Bool) : (releasedLink enabled).Sound := by
  cases enabled <;> simp [LinkUnit.Sound, releasedLink, stoppedLink, LinkState.up]

theorem powerOn_linksSound : (State.powerOn straps q).LinksSound := by
  have idle : ∀ l, ((State.powerOn straps q).link l).sending = none := fun l => by rw [State.link_powerOn]; rfl
  refine ⟨fun l => ?_, ⟨rfl, rfl, fun f sending => ?_⟩, fun f sending => ?_, fun n f sending => ?_⟩
  · rw [State.link_powerOn]
    exact releasedLink_sound _
  · cases (idle .dl).symm.trans sending
  · cases (idle .ml).symm.trans sending
  · cases (idle n.link).symm.trans sending

theorem held_linksSound : (State.held straps q).LinksSound := by
  have idle : ∀ l, ((State.held straps q).link l).sending = none := fun l => by rw [State.link_held]; rfl
  refine ⟨fun l => ?_, ⟨rfl, rfl, fun f sending => ?_⟩, fun f sending => ?_, fun n f sending => ?_⟩
  · rw [State.link_held]
    exact stoppedLink_sound
  · cases (idle .dl).symm.trans sending
  · cases (idle .ml).symm.trans sending
  · cases (idle n.link).symm.trans sending

theorem powerOn_votesSound : (State.powerOn straps q).VotesSound := by
  intro p
  rw [State.voteOf_powerOn]
  exact ⟨trivial, nofun, fun _ => rfl⟩

theorem powerOnLane_sound (fitted : Bool) : (powerOnLane fitted).Sound (defaultGlobal straps) := by
  cases fitted <;> simp [LaneEntry.Sound, powerOnLane, LaneState.joined, defaultGlobal]

theorem powerOn_lanesSound : (State.powerOn straps q).LanesSound := by
  refine ⟨fun l => ?_, fun l => ?_, fun l joined => ?_, fun l probation => ?_, fun i hi => ?_⟩
  · cases l <;> exact powerOnLane_sound straps _
  · rw [State.laneState_powerOn]
    change _ ↔ straps.get l = false
    cases straps.get l <;> simp
  · rw [State.powerOn_apart] at joined
    cases joined
  · have apart := State.powerOn_apart straps q l
    rw [probation] at apart
    cases apart
  · have default : i = defaultImage straps := by
      obtain rfl | hi := List.mem_cons.mp hi
      · rfl
      · exact List.mem_singleton.mp hi
    rw [default]
    simp only [defaultImage, defaultGlobal]
    decide

theorem held_lanesSound : (State.held straps q).LanesSound := by
  obtain ⟨entries, fitted, -, backed, limits⟩ := powerOn_lanesSound straps q
  refine ⟨entries, fitted, fun l joined => ?_, backed, limits⟩
  have apart := State.powerOn_apart straps q l
  rw [show (State.powerOn straps q).laneState l = (State.held straps q).laneState l from rfl, joined] at apart
  cases apart

theorem powerOn_authoritySound : (State.powerOn straps q).AuthoritySound :=
  ⟨nofun, List.nodup_nil, nofun, fun _ => rfl⟩

theorem powerOn_safetySound : (State.powerOn straps q).SafetySound := by
  obtain ⟨⟨members, -⟩, -⟩ := defaultGlobal_inRange straps
  exact ⟨iff_of_true rfl (.inl rfl), iff_of_true rfl rfl, members, members⟩

theorem powerOn_collectionSound : (State.powerOn straps q).CollectionSound := nofun

theorem powerOn_driveSound : (State.powerOn straps q).DriveSound := by
  have queue : (State.powerOn straps q).du.queue = [] := rfl
  have echoes : (State.powerOn straps q).du.echoes = [] := rfl
  refine ⟨List.nodup_nil, fun p => ?_, Nat.zero_le 8, List.nodup_nil, List.nodup_nil, fun p => ?_, fun p enabled => ?_⟩
  · rw [queue, State.driveOf_powerOn]
    simp
  · rw [echoes, State.driveOf_powerOn]
    simp
  · rw [State.cfgOf_powerOn] at enabled
    cases enabled

theorem powerOn_noticesSound : (State.powerOn straps q).NoticesSound := by
  intro l
  rw [State.notices_powerOn]
  exact ⟨Nat.zero_le 16, Nat.zero_le 255, fun _ => ⟨rfl, rfl⟩, fun _ => ⟨Nat.zero_le 1, rfl⟩⟩

theorem powerOn_journalSound : (State.powerOn straps q).JournalSound :=
  ⟨Nat.zero_le 256, trivial, iff_of_false nofun (fun ne => ne rfl), nofun, nofun, Nat.zero_le 65535, fun _ => rfl,
    (by decide : 32 ≤ 255), (by decide : 32 ≤ 255)⟩

end

/-- Settles O7: block by block; nothing has been voted, sent, driven or recorded yet, and no lane has joined. -/
theorem resetMeetsTheInvariants : Obligations.ResetMeetsTheInvariants := fun straps q =>
  ⟨powerOn_configSound straps q, powerOn_linksSound straps q, powerOn_votesSound straps q, powerOn_lanesSound straps q,
    powerOn_authoritySound straps q, powerOn_safetySound straps q, powerOn_collectionSound straps q,
    powerOn_driveSound straps q, powerOn_noticesSound straps q, powerOn_journalSound straps q, rfl⟩

/-! ### The other tier 1 statements about the pins and the clock -/

/-- Settles O6: the power-on values read off. -/
theorem powerOnBlocks : Obligations.PowerOnBlocks := by
  intro straps q
  refine ⟨rfl, rfl, rfl, rfl, rfl, rfl, State.notices_powerOn straps q, rfl, rfl, rfl, rfl, rfl, fun l => ?link,
    ⟨_, rfl⟩, rfl, fun l => ?held⟩
  case link => cases l <;> rfl
  case held =>
    rw [State.link_held]
    exact ⟨rfl, rfl, rfl, rfl, rfl⟩

end Sys2Proof.Machine

/-! What a warm restart and a commit make of each block (R13, R14, R89, R90, R103, R114, R170), and what the other operations
leave of the lanes, of authority and of Safe Control. -/

namespace Sys2Proof.Machine

theorem State.voteOf_of_ve {s t : State} (ve : t.ve = s.ve) (p : Fin 64) : t.voteOf p = s.voteOf p :=
  congrArg (PerPoint.at · p) ve

theorem State.lane_of_lm {s t : State} (lm : t.lm = s.lm) (l : Lane) : t.lane l = s.lane l := congrArg (PerLane.get · l) lm

theorem State.laneState_of_lm {s t : State} (lm : t.lm = s.lm) (l : Lane) : t.laneState l = s.laneState l :=
  congrArg LaneEntry.state (State.lane_of_lm lm l)

/-! ### The hand-off of a value -/

/-- A point under way takes the target and a fresh budget (Table 7.2). -/
theorem DriveUnit.handOff_of_underWay (retries : Nat) (p : Fin 64) (v : Value) {d : DriveUnit}
    (h : (d.part p).status = .queued ∨ (d.part p).status = .inFlight) :
    d.handOff retries p v = d.putPart p { d.part p with target := v, budget := retries } := by
  obtain h | h := h <;> simp [DriveUnit.handOff, h]

/-- Settles O43: the four statuses one by one. -/
theorem handOffByStatus : Obligations.HandOffByStatus := by
  intro retries p v d
  refine ⟨d.handOff_of_faulted retries p v, fun idle target confirmed => ?_, fun idle differs => ?_,
    DriveUnit.handOff_of_underWay retries p v⟩
  · simp [DriveUnit.handOff, idle, target, confirmed]
  · have moves : ¬ (v = (d.part p).target ∧ some v = (d.part p).confirmed) := fun same =>
      differs ⟨same.1.symm, same.2.symm⟩
    simp only [DriveUnit.handOff, idle, moves, if_false]
    rfl

/-! ### The drive unit re-initialised -/

/-- The safe values handed to a drive unit just re-initialised change nothing (R114 step 8). -/
theorem DriveUnit.handSafeValues_reinit (d : DriveUnit) (i : Image) :
    (d.reinit i).handSafeValues i = d.reinit i := by
  unfold DriveUnit.handSafeValues
  refine List.foldlRecOn (motive := fun u => u = d.reinit i) allPoints _ rfl fun u same p _ => ?_
  dsimp only
  split
  next due =>
    have part : u.part p = reinitPart i.global.echoRetries (i.points.at p) (d.part p) := by
      rw [same, DriveUnit.part_reinit]
    have status : (u.part p).status = .queued := by rw [part, reinitPart, if_pos due.1]
    have kept : ({ u.part p with target := (i.points.at p).safe, budget := i.global.echoRetries } : DrivePart) =
        u.part p := by rw [part]; rfl
    have put : u.putPart p (u.part p) = u := by
      rw [DriveUnit.putPart, DriveUnit.part, PerPoint.put_at]
    rw [DriveUnit.handOff_of_underWay _ _ _ (.inl status), kept, put, same]
  next => exact same

/-! ### The lanes' step of a warm restart -/

/-- A lane's entry after a warm restart (R89). -/
def LaneEntry.restarted (e : LaneEntry) : LaneEntry :=
  if e.state = .absent then e
  else
    { state := .down
      strikes := 0
      cleanRun := 0
      credit := 0
      beatDeadline := none
      beatSeq := none
      holdDeadline := none
      lastCause := if e.state = .down then e.lastCause else .restart }

theorem LaneEntry.restarted_apart (e : LaneEntry) : e.restarted.state.joined = false := by
  unfold LaneEntry.restarted
  split
  next absent => rw [absent]; rfl
  next => rfl

theorem LaneEntry.restarted_absent_iff (e : LaneEntry) : e.restarted.state = .absent ↔ e.state = .absent := by
  unfold LaneEntry.restarted
  split
  next absent => simp [absent]
  next present => exact iff_of_false nofun present

section
variable (s : State) (l : Lane)

/-- What a warm restart does to a lane that is PROBATION, MEMBER or EXCLUDED, and to the other lanes that are not ABSENT
(R89). -/
theorem State.restartLane_eq :
    s.restartLane l =
      if (s.laneState l).joined || s.laneState l == .excluded then
        ((s.putLane l (s.lane l).restarted).emptyNotices l).submit (some l)
          (.lane (s.laneState l) .down .restart (s.lane l).strikes)
      else s.putLane l (s.lane l).restarted := by
  unfold State.restartLane LaneEntry.restarted State.laneState
  dsimp only
  cases state : (s.lane l).state with
  | absent => exact (s.putLane_lane l).symm
  | down => rfl
  | probation => rfl
  | member => rfl
  | excluded => rfl

theorem State.lane_restartLane (m : Lane) :
    (s.restartLane l).lane m = if m = l then (s.lane l).restarted else s.lane m := by
  rw [State.restartLane_eq]
  split
  · rw [State.submit_lane, State.emptyNotices_lane, State.lane_putLane]
  · rw [State.lane_putLane]

theorem State.restartLane_rest :
    (s.restartLane l).ve = s.ve ∧ (s.restartLane l).du = s.du ∧ (s.restartLane l).au = s.au ∧
      (s.restartLane l).sc = s.sc := by
  rw [State.restartLane_eq]
  split <;> simp

/-! ### The lanes' step of a commit -/

/-- A lane's entry after a commit against whether the new image fits it (R90, Table 4.7). -/
def LaneEntry.committed (fitted : Bool) (e : LaneEntry) : LaneEntry :=
  match commitChange e.state fitted with
  | none => { e with beatSeq := none }
  | some (new, cause) =>
    { state := new
      strikes := 0
      cleanRun := 0
      credit := 0
      beatDeadline := none
      beatSeq := none
      holdDeadline := none
      lastCause := cause }

theorem State.commitLane_eq :
    s.commitLane l =
      match commitChange (s.laneState l) (s.global.fitted.get l) with
      | none => s.putLane l ((s.lane l).committed (s.global.fitted.get l))
      | some (new, cause) =>
        ((s.putLane l ((s.lane l).committed (s.global.fitted.get l))).emptyNotices l).submit (some l)
          (.lane (s.laneState l) new cause (s.lane l).strikes) := by
  unfold State.commitLane LaneEntry.committed State.laneState
  dsimp only
  cases state : (s.lane l).state <;> cases s.global.fitted.get l <;> rfl

theorem State.lane_commitLane (m : Lane) :
    (s.commitLane l).lane m = if m = l then (s.lane l).committed (s.global.fitted.get l) else s.lane m := by
  rw [State.commitLane_eq]
  split
  · rw [State.lane_putLane]
  · rw [State.submit_lane, State.emptyNotices_lane, State.lane_putLane]

theorem State.commitLane_rest :
    (s.commitLane l).ve = s.ve ∧ (s.commitLane l).du = s.du ∧ (s.commitLane l).au = s.au ∧
      (s.commitLane l).sc = s.sc := by
  rw [State.commitLane_eq]
  split <;> simp

end

/-! ### A warm restart -/

section
variable (s : State)

/-- All lanes' steps of a warm restart. -/
def State.restartLanes (s : State) : State := ((s.restartLane .a).restartLane .b).restartLane .c

theorem State.restartLanes_base : s.SameBase s.restartLanes :=
  (s.restartLane_base .a).trans ((State.restartLane_base _ .b).trans (State.restartLane_base _ .c))

theorem State.lane_restartLanes (m : Lane) : s.restartLanes.lane m = (s.lane m).restarted := by
  rw [State.restartLanes, State.lane_restartLane, State.lane_restartLane, State.lane_restartLane]
  cases m <;> simp [State.lane_restartLane]

theorem State.restartLanes_rest :
    s.restartLanes.ve = s.ve ∧ s.restartLanes.du = s.du ∧ s.restartLanes.au = s.au ∧ s.restartLanes.sc = s.sc := by
  obtain ⟨veA, duA, auA, scA⟩ := s.restartLane_rest .a
  obtain ⟨veB, duB, auB, scB⟩ := (s.restartLane .a).restartLane_rest .b
  obtain ⟨veC, duC, auC, scC⟩ := ((s.restartLane .a).restartLane .b).restartLane_rest .c
  exact ⟨veC.trans (veB.trans veA), duC.trans (duB.trans duA), auC.trans (auB.trans auA), scC.trans (scB.trans scA)⟩

/-- The part of a warm restart before its lanes' steps (R114 steps 1 to 5). -/
def State.restartBegun (kind : RestartKind) (voters : LaneSet) (s : State) : State :=
  { ({ s.submit none (.restart kind voters) with
      sc := { (s.submit none (.restart kind voters)).sc with collection := none } } : State).reinitPoints with
    nu := ⟨clearedBox, clearedBox, clearedBox⟩ }

theorem State.warmRestart_eq (kind : RestartKind) (voters : LaneSet) :
    s.warmRestart kind voters = ((s.restartBegun kind voters).restartLanes.clearAuthority).restartSafe := rfl

theorem State.clearAuthority_rest :
    s.clearAuthority.au = ⟨none, if s.au.holder = none then s.au.epoch else s.au.epoch + 1, []⟩ ∧
      s.clearAuthority.lm = s.lm ∧ s.clearAuthority.ve = s.ve ∧ s.clearAuthority.du = s.du ∧
      s.clearAuthority.sc = s.sc := by
  unfold State.clearAuthority
  split
  next free => simp [free]
  next holder held => simp [held, AuthorityUnit.change]

theorem State.restartSafe_rest :
    s.restartSafe.sc = ⟨true, .low, s.sc.collection⟩ ∧ s.restartSafe.du = s.du.handSafeValues s.cu.active ∧
      s.restartSafe.lm = s.lm ∧ s.restartSafe.ve = s.ve ∧ s.restartSafe.au = s.au := by
  unfold State.restartSafe
  dsimp only
  split <;> simp [safeLevel]

theorem State.restartBegun_rest (kind : RestartKind) (voters : LaneSet) :
    s.SameBase (s.restartBegun kind voters) ∧ (s.restartBegun kind voters).lm = s.lm ∧
      (s.restartBegun kind voters).ve = (tabulatePoints fun _ => clearedVote) ∧
      (s.restartBegun kind voters).du = s.du.reinit s.cu.active ∧ (s.restartBegun kind voters).au = s.au ∧
      (s.restartBegun kind voters).sc = { s.sc with collection := none } := by
  have base := s.submit_base none (.restart kind voters)
  refine ⟨⟨base.resetN, base.straps, base.time, base.cu, base.lu, base.pending⟩, ?_⟩
  simp [State.restartBegun]

/-- What a warm restart makes of each block but the notices and the journal. -/
theorem State.warmRestart_spec (kind : RestartKind) (voters : LaneSet) :
    (∀ m, (s.warmRestart kind voters).lane m = (s.lane m).restarted) ∧
      (s.warmRestart kind voters).ve = (tabulatePoints fun _ => clearedVote) ∧
      (s.warmRestart kind voters).du = s.du.reinit s.cu.active ∧
      (s.warmRestart kind voters).au = ⟨none, if s.au.holder = none then s.au.epoch else s.au.epoch + 1, []⟩ ∧
      (s.warmRestart kind voters).sc = ⟨true, .low, none⟩ := by
  obtain ⟨begun, lm, ve, du, au, sc⟩ := s.restartBegun_rest kind voters
  have lanes := (s.restartBegun kind voters).lane_restartLanes
  have lanesBase := (s.restartBegun kind voters).restartLanes_base
  obtain ⟨veL, duL, auL, scL⟩ := (s.restartBegun kind voters).restartLanes_rest
  obtain ⟨auA, lmA, veA, duA, scA⟩ := (s.restartBegun kind voters).restartLanes.clearAuthority_rest
  have clearedBase := (s.restartBegun kind voters).restartLanes.clearAuthority_base
  obtain ⟨scS, duS, lmS, veS, auS⟩ := (s.restartBegun kind voters).restartLanes.clearAuthority.restartSafe_rest
  rw [s.warmRestart_eq kind voters]
  refine ⟨fun m => ?_, ?_, ?_, ?_, ?_⟩
  · rw [State.lane_of_lm lmS, State.lane_of_lm lmA, lanes, State.lane_of_lm lm]
  · rw [veS, veA, veL, ve]
  · rw [duS, duA, duL, du, clearedBase.cu, lanesBase.cu, begun.cu, DriveUnit.handSafeValues_reinit]
  · rw [auS, auA, auL, au]
  · rw [scS, scA, scL, sc]

theorem State.laneState_warmRestart (kind : RestartKind) (voters : LaneSet) (m : Lane) :
    (s.warmRestart kind voters).laneState m = (s.lane m).restarted.state :=
  congrArg LaneEntry.state ((s.warmRestart_spec kind voters).1 m)

/-! ### A commit -/

/-- All lanes' steps of a commit. -/
def State.commitLanes (s : State) : State := ((s.commitLane .a).commitLane .b).commitLane .c

theorem State.commitLanes_base : s.SameBase s.commitLanes :=
  (s.commitLane_base .a).trans ((State.commitLane_base _ .b).trans (State.commitLane_base _ .c))

theorem State.lane_commitLanes (m : Lane) :
    s.commitLanes.lane m = (s.lane m).committed (s.global.fitted.get m) := by
  have fitA : (s.commitLane .a).global = s.global := (s.commitLane_base .a).global
  have fitB : ((s.commitLane .a).commitLane .b).global = s.global := (State.commitLane_base _ .b).global.trans fitA
  rw [State.commitLanes, State.lane_commitLane, State.lane_commitLane, State.lane_commitLane, fitA, fitB]
  cases m <;> simp [State.lane_commitLane, fitA]

theorem State.commitLanes_rest :
    s.commitLanes.ve = s.ve ∧ s.commitLanes.du = s.du ∧ s.commitLanes.au = s.au ∧ s.commitLanes.sc = s.sc := by
  obtain ⟨veA, duA, auA, scA⟩ := s.commitLane_rest .a
  obtain ⟨veB, duB, auB, scB⟩ := (s.commitLane .a).commitLane_rest .b
  obtain ⟨veC, duC, auC, scC⟩ := ((s.commitLane .a).commitLane .b).commitLane_rest .c
  exact ⟨veC.trans (veB.trans veA), duC.trans (duB.trans duA), auC.trans (auB.trans auA), scC.trans (scB.trans scA)⟩

/-- The staging image made the active one and committed (R170 steps 1 to 3). -/
def State.imageCommitted (s : State) : State :=
  { s with cu := ⟨.operate, s.cu.staging, s.cu.staging, s.cu.staging.digest, true⟩ }

/-- A commit up to its CONFIG record (R170 steps 1 to 5). -/
def State.commitRecorded (s : State) : State :=
  s.imageCommitted.reinitPoints.commitLanes.submit none
    (.config s.cu.digest s.cu.staging.digest s.cu.staging.global.fitted (!s.cu.committed))

theorem State.commit_eq : s.commit = s.commitRecorded.reevaluate none := rfl

theorem State.commitRecorded_rest :
    (∀ m, s.commitRecorded.lane m = (s.lane m).committed (s.cu.staging.global.fitted.get m)) ∧
      s.commitRecorded.ve = (tabulatePoints fun _ => clearedVote) ∧
      s.commitRecorded.du = s.du.reinit s.cu.staging ∧ s.commitRecorded.au = s.au ∧ s.commitRecorded.sc = s.sc ∧
      s.commitRecorded.cu = ⟨.operate, s.cu.staging, s.cu.staging, s.cu.staging.digest, true⟩ ∧
      s.commitRecorded.time = s.time ∧ s.commitRecorded.lu = s.lu := by
  have lanes := s.imageCommitted.reinitPoints.lane_commitLanes
  have base := s.imageCommitted.reinitPoints.commitLanes_base
  obtain ⟨ve, du, au, sc⟩ := s.imageCommitted.reinitPoints.commitLanes_rest
  unfold State.commitRecorded
  refine ⟨fun m => ?_, ?_, ?_, ?_, ?_, ?_, ?_, ?_⟩
  · rw [State.submit_lane, lanes]; rfl
  · rw [State.submit_ve, ve]; rfl
  · rw [State.submit_du, du]; rfl
  · rw [State.submit_au, au]; rfl
  · rw [State.submit_sc, sc]; rfl
  · rw [State.submit_cu, base.cu]; rfl
  · rw [State.submit_time, base.time]; rfl
  · rw [State.submit_lu, base.lu]; rfl

/-- What a commit makes of each block but the safe condition, the drive unit, the notices and the journal. -/
theorem State.commit_spec :
    (∀ m, s.commit.lane m = (s.lane m).committed (s.cu.staging.global.fitted.get m)) ∧
      s.commit.ve = (tabulatePoints fun _ => clearedVote) ∧ s.commit.au = s.au ∧
      s.commit.sc.collection = s.sc.collection ∧
      s.commit.cu = ⟨.operate, s.cu.staging, s.cu.staging, s.cu.staging.digest, true⟩ ∧ s.commit.lu = s.lu := by
  obtain ⟨lanes, ve, -, au, sc, cu, -, lu⟩ := s.commitRecorded_rest
  obtain ⟨base, lmR, veR, auR, -, -, collectionR, -⟩ := s.commitRecorded.reevaluate_spec none
  rw [State.commit_eq]
  refine ⟨fun m => ?_, veR.trans ve, auR.trans au, ?_, base.cu.trans cu, base.lu.trans lu⟩
  · rw [State.lane_of_lm lmR, lanes]
  · rw [collectionR, sc]

end

/-! ### Changes of a lane and the lanes around it -/

section
variable (s : State) (l : Lane) (new : LaneState) (cause : LaneCause)

theorem State.laneState_changeLane (m : Lane) :
    (s.changeLane l new cause).laneState m = if m = l then new else s.laneState m := by
  rw [State.laneState, State.lane_changeLane, apply_ite LaneEntry.state, LaneEntry.entered_state]
  rfl

end

end Sys2Proof.Machine

/-! Invariants that do not read the votes: what a closing and a moved lane come to for them. The invariants of the
configuration, of authority, of the safe condition and of the restart collection (R92, R105, R110, R112, R164, R172). -/

namespace Sys2Proof.Machine

/-! ### Lanes moved and demoted -/

section
variable (s : State)

theorem State.laneState_demoteProbation (l m : Lane) :
    (s.demoteProbation l).laneState m =
      if m = l ∧ s.laneState l = .probation then .down else s.laneState m := by
  unfold State.demoteProbation
  by_cases probation : s.laneState l = .probation
  · rw [if_pos probation, State.laneState_changeLane]
    simp only [probation, and_true]
  · rw [if_neg probation, if_neg (fun h => probation h.2)]

/-- The demotions behind the last MEMBER's departure take every PROBATION lane DOWN and no other (R75). -/
theorem State.laneState_demoteAll (m : Lane) :
    s.demoteAll.laneState m = if s.laneState m = .probation then .down else s.laneState m := by
  unfold State.demoteAll
  simp only [State.laneState_demoteProbation]
  cases m <;> simp

end

/-- What every change of a lane keeps, a moved lane with its demotions keeps (R68, R75). -/
theorem State.moveLane_keeps {Q : State → Prop}
    (change : ∀ (s : State) (l : Lane) (new : LaneState) (cause : LaneCause), s.laneState l ≠ .absent → new ≠ .absent →
      new ≠ s.laneState l → Q s → Q (s.changeLane l new cause))
    {s : State} {l : Lane} {new : LaneState} (cause : LaneCause) (present : s.laneState l ≠ .absent)
    (stays : new ≠ .absent) (differs : new ≠ s.laneState l) (h : Q s) : Q (s.moveLane l new cause) := by
  have demote : ∀ (u : State) (m : Lane), Q u → Q (u.demoteProbation m) := by
    intro u m hu
    unfold State.demoteProbation
    split
    next probation => exact change _ _ _ _ (by rw [probation]; nofun) nofun (by rw [probation]; nofun) hu
    next => exact hu
  have changed := change s l new cause present stays differs h
  obtain same | demoted := s.moveLane_eq_or l new cause
  · rw [same]; exact changed
  · rw [demoted]; exact demote _ _ (demote _ _ (demote _ _ changed))

theorem LaneState.joined_iff {x : LaneState} : x.joined = true ↔ x = .probation ∨ x = .member := by
  cases x <;> simp [LaneState.joined]

theorem joined_of_member {x : LaneState} (h : x = .member) : x.joined = true := by
  rw [h]
  rfl

/-- A commit leaves the state and the counts of a joined lane (R90). -/
theorem LaneEntry.committed_of_joined (fitted : Bool) {e : LaneEntry} (joined : e.state.joined = true) :
    e.committed fitted = { e with beatSeq := none } := by
  unfold LaneEntry.committed
  have stays : commitChange e.state fitted = none := by
    obtain state | state := LaneState.joined_iff.mp joined <;> rw [state] <;> rfl
  rw [stays]

/-! ### Closings -/

/-- What the consequences keep and no vote part bears on, a closing with its continuation keeps. -/
theorem KeptByConsequences.closePoint {P : State → Prop} (k : KeptByConsequences P)
    (votes : ∀ (s : State) p v, P s → P (s.putVote p v)) (p : Fin 64) (cause : CloseCause) (s : State) (h : P s) :
    P (s.closePoint p cause) := by
  have chain : ∀ n cause (s : State), P s → P (s.closeChain n p cause) := by
    intro n
    induction n with
    | zero => exact fun _ _ h => h
    | succ n ih =>
      intro cause s h
      unfold State.closeChain
      split
      · exact h
      dsimp only
      have closed := fun x rest => k.closeSlot p x rest cause fun last => votes s p _ h
      split
      · exact ih _ _ (closed _ _)
      · exact closed _ _
  exact chain _ _ _ h

theorem Kept.of_voteless {A : ReqKind → Prop} {P : State → Prop} (votes : ∀ (s : State) p v, P s → P (s.putVote p v))
    (change : ∀ s t, s.Change A t → P s → P t) : Kept A P where
  change := change
  close := KeptByConsequences.closePoint (fun s t h => change s t (.consequence h)) votes

/-! ### What each change leaves -/

theorem State.Consequence.base {s t : State} (h : s.Consequence t) : s.SameBase t := by
  cases h with
  | submit sub b => exact s.submit_base sub b
  | notify r n => exact s.notify_base r n
  | handOff p v => exact ⟨rfl, rfl, rfl, rfl, rfl, rfl⟩
  | counts l e same sound => exact s.putLane_base l e
  | move l e new cause may => exact (s.putLane_base l e).trans (State.moveLane_base _ _ _ _)

/-! ### The configuration (R164, R165, R169, R172) -/

theorem configSound_kept : Kept (fun _ => True) fun s => s.cu.Sound := by
  refine Kept.of_voteless (fun s p v h => h) fun s t change h => ?_
  have of_base : s.SameBase t → t.cu.Sound := fun base => by rw [base.cu]; exact h
  obtain ⟨active, staging, digest, operating, valid⟩ := id h
  cases change with
  | consequence c => exact of_base c.base
  | tick => exact h
  | links => exact h
  | sent => exact h
  | slots => exact h
  | claim => exact of_base (s.changeHolder_base _ _ _ _)
  | queueClaim => exact h
  | yield => exact of_base (s.changeHolder_base _ _ _ _)
  | withdraw => exact h
  | drive => exact h
  | clear => exact h
  | vote => exact h
  | endVote => exact h
  | restart => exact of_base (s.warmRestart_base _ _)
  | rearm => exact h
  | openSession =>
    rw [(State.reevaluate_base _ _).cu]
    exact ⟨active, active, digest, nofun, valid⟩
  | write i config inRange =>
    refine ⟨active, inRange staging, digest, fun operate => ?_, valid⟩
    rw [show (s.putStaging i).cu.mode = s.cu.mode from rfl, config] at operate
    cases operate
  | abort config committed =>
    rw [(State.reevaluate_base _ _).cu]
    exact ⟨active, active, digest, fun _ => ⟨committed, rfl⟩, valid⟩
  | commit config passes =>
    obtain ⟨-, -, -, -, cu, -⟩ := s.commit_spec
    rw [cu]
    exact ⟨staging, staging, rfl, fun _ => ⟨rfl, rfl⟩, fun _ => passes⟩

/-- Settles O8: only a session's requests touch the configuration, and each keeps it sound. -/
theorem stepsKeepTheConfigurationSound : Obligations.StepsKeepTheConfigurationSound := fun _ _ =>
  configSound_kept.step (fun _ _ h => h) powerOn_configSound powerOn_configSound

/-! ### Authority (R92) -/

/-- Authority stays sound where the unit is kept and no MEMBER is lost. -/
theorem State.AuthoritySound.of_members {s t : State} (h : s.AuthoritySound) (au : t.au = s.au)
    (stay : ∀ m, s.laneState m = .member → t.laneState m = .member) : t.AuthoritySound := by
  obtain ⟨holder, once, claims, free⟩ := h
  rw [State.AuthoritySound, au]
  exact ⟨fun l held => stay l (holder l held), once,
    fun l claimed => ⟨stay l (claims l claimed).1, (claims l claimed).2⟩, free⟩

theorem State.AuthoritySound.of_lm {s t : State} (h : s.AuthoritySound) (au : t.au = s.au) (lm : t.lm = s.lm) :
    t.AuthoritySound :=
  h.of_members au fun m member => (State.laneState_of_lm lm m).trans member

theorem State.AuthoritySound.of_unit {t : State} {u : AuthorityUnit} (au : t.au = u)
    (holder : ∀ m, u.holder = some m → t.laneState m = .member) (once : u.claims.Nodup)
    (claims : ∀ m ∈ u.claims, t.laneState m = .member ∧ u.holder ≠ some m) (free : u.holder = none → u.claims = []) :
    t.AuthoritySound := by
  rw [State.AuthoritySound, au]
  exact ⟨holder, once, claims, free⟩

/-- The claim queue without a lane's claim stays sound where the lane does not hold. -/
theorem State.AuthoritySound.dropClaim {s t : State} (h : s.AuthoritySound) {l : Lane} (au : t.au = s.au.dropClaim l)
    (other : ∀ m, m ≠ l → s.laneState m = .member → t.laneState m = .member)
    (holder : ∀ m, s.au.holder = some m → t.laneState m = .member) : t.AuthoritySound := by
  obtain ⟨-, once, claims, free⟩ := h
  refine .of_unit au holder (once.filter _) (fun m claimed => ?_) fun none => ?_
  · obtain ⟨queued, ne⟩ := List.mem_filter.mp claimed
    obtain ⟨member, notHolder⟩ := claims m queued
    exact ⟨other m (by simpa using ne) member, notHolder⟩
  · have empty := free none
    simp [AuthorityUnit.dropClaim, empty]

/-- Succession keeps authority among the MEMBER lanes that remain (R99). -/
theorem State.AuthoritySound.succeed {s u : State} (h : s.AuthoritySound) {l : Lane} (au : u.au = s.au)
    (other : ∀ m, m ≠ l → u.laneState m = s.laneState m) :
    (u.succeed l).AuthoritySound := by
  have remain : ∀ m, m ≠ l → s.laneState m = .member → u.laneState m = .member := fun m ne member =>
    (other m ne).trans member
  have lanes : ∀ m, (u.succeed l).laneState m = u.laneState m :=
    fun m => State.laneState_of_lm (u.succeed_spec l).2.1 m
  by_cases held : s.au.holder = some l
  · obtain ⟨-, once, claims, -⟩ := h
    have left : ∀ m ∈ (u.au.dropClaim l).claims, u.laneState m = .member := by
      intro m claimed
      obtain ⟨queued, ne⟩ := List.mem_filter.mp claimed
      rw [au] at queued
      exact remain m (by simpa using ne) (claims m queued).1
    have leftOnce : (u.au.dropClaim l).claims.Nodup := by
      rw [au]
      exact once.filter _
    have drop : (u.au.dropClaim l).holder = some l := (congrArg AuthorityUnit.holder au).trans held
    have changed : ∀ (holder : Option Lane) (queue : List Lane) (cause : AuthCause) (t : State),
        t = ({ u with au := u.au.dropClaim l } : State).changeHolder holder queue cause l →
        (∀ m, holder = some m → u.laneState m = .member) → queue.Nodup →
        (∀ m ∈ queue, u.laneState m = .member ∧ holder ≠ some m) → (holder = none → queue = []) →
        t.AuthoritySound := by
      rintro holder queue cause t rfl member once' members free
      obtain ⟨-, au', lm', -⟩ := ({ u with au := u.au.dropClaim l } : State).changeHolder_spec holder queue cause l
      have same := fun m => State.laneState_of_lm lm' m
      refine .of_unit au' (fun m hm => ?_) once' (fun m hm => ?_) free
      · rw [same]; exact member m hm
      · rw [same]; exact members m hm
    rw [State.succeed_over u l _ _ rfl rfl, if_pos drop]
    split
    next first rest queue =>
      rw [queue] at left leftOnce
      obtain ⟨absent, once'⟩ := List.nodup_cons.mp leftOnce
      refine changed _ _ _ _ rfl ?_ once' (fun m hm => ⟨left m (List.mem_cons_of_mem _ hm), ?_⟩) nofun
      · rintro _ ⟨⟩
        exact left _ List.mem_cons_self
      · rintro ⟨⟩
        exact absent hm
    next =>
      split
      next m best =>
        refine changed _ _ _ _ rfl ?_ List.nodup_nil nofun nofun
        rintro _ ⟨⟩
        split at best
        · have ranked := bestRanked_mem best
          rwa [State.get_members, beq_iff_eq] at ranked
        · cases best
      next => exact changed _ _ _ _ rfl nofun List.nodup_nil nofun fun _ => rfl
  · obtain ⟨-, -, -, -, -, dropped, -⟩ := u.succeed_spec l
    have notHeld : u.au.holder ≠ some l := by rwa [au]
    rw [au] at dropped notHeld
    obtain ⟨holder, -⟩ := id h
    refine h.dropClaim (dropped notHeld) (fun m ne member => ?_) fun m holds => ?_
    · rw [lanes]; exact remain m ne member
    · rw [lanes]
      exact remain m (fun same => held (same ▸ holds)) (holder m holds)

theorem State.AuthoritySound.changeLane {s : State} (h : s.AuthoritySound) (l : Lane) {new : LaneState}
    (cause : LaneCause) (differs : new ≠ s.laneState l) : (s.changeLane l new cause).AuthoritySound := by
  by_cases was : s.laneState l = .member
  · have leaves : (s.laneState l == .member && new != .member) = true := by
      rw [was] at differs ⊢
      simp [differs]
    have succeeded := h.succeed (u := s.announceChange l new cause) (s.announceChange_au l new cause)
      (l := l) (fun m ne => by rw [State.laneState_announceChange, if_neg ne])
    rw [State.changeLane_eq, leaves, State.concludeChange, if_pos rfl]
    obtain ⟨-, lm, -, au, -⟩ :=
      State.reevaluate_spec (((s.announceChange l new cause).succeed l).removeVoter l) (some l)
    exact succeeded.of_lm au lm
  · refine h.of_members (s.changeLane_keeps_authority l new cause was).1 fun m member => ?_
    rw [State.laneState_changeLane, if_neg (by rintro rfl; exact was member)]
    exact member

theorem authoritySound_kept : Kept (fun _ => True) State.AuthoritySound := by
  refine Kept.of_voteless (fun s p v h => h) fun s t change h => ?_
  obtain ⟨holder, once, claims, free⟩ := id h
  cases change with
  | consequence c =>
    cases c with
    | submit sub b => exact h.of_lm (s.submit_au sub b) (s.submit_lm sub b)
    | notify r n => exact h
    | handOff p v => exact h
    | counts l e same =>
      refine h.of_members rfl fun m member => ?_
      rw [State.laneState_putLane]
      split
      next here => rw [same, ← here, member]
      next => exact member
    | move l e new cause may =>
      have kept : ∀ m, (s.putLane l e).laneState m = s.laneState m := fun m => by
        rw [State.laneState_putLane]
        split
        next here => rw [may.same, here]
        next => rfl
      refine State.moveLane_keeps (fun u l new cause _ _ differs hu => hu.changeLane l cause differs) cause ?_ may.stays
        ?_ (h.of_members (t := s.putLane l e) rfl fun m member => (kept m).trans member)
      · rw [kept]; exact may.present
      · rw [kept]; exact may.differs
  | tick => exact h
  | links => exact h
  | sent => exact h
  | slots => exact h
  | claim l member unheld =>
    obtain ⟨-, au, lm, -⟩ := s.changeHolder_spec (some l) s.au.claims .claimed l
    refine .of_unit au ?_ once (fun m queued => ?_) nofun
    · rintro _ ⟨⟩
      rw [State.laneState_of_lm lm]
      exact member
    · rw [free unheld] at queued
      cases queued
  | queueClaim l member held other fresh =>
    refine .of_unit rfl holder ?_ (fun m hm => ?_) fun none => absurd none held
    · exact List.nodup_append.mpr ⟨once, List.nodup_singleton l, fun _ queued _ new same =>
        fresh (List.mem_singleton.mp new ▸ same ▸ queued)⟩
    · obtain queued | new := List.mem_append.mp hm
      · exact claims m queued
      · cases List.mem_singleton.mp new
        exact ⟨member, other⟩
  | yield l holds =>
    obtain ⟨-, au, lm, -⟩ := s.changeHolder_spec s.au.claims.head? s.au.claims.tail .yielded l
    have lanes := fun m => State.laneState_of_lm lm m
    refine .of_unit au (fun m hm => ?_) (once.sublist (List.tail_sublist _)) (fun m hm => ⟨?_, fun head => ?_⟩)
      fun none => ?_
    · rw [lanes]
      exact (claims m (List.mem_of_head? hm)).1
    · rw [lanes]
      exact (claims m (List.mem_of_mem_tail hm)).1
    · cases queue : s.au.claims with
      | nil => rw [queue] at hm; cases hm
      | cons first rest =>
        rw [queue] at hm head once
        cases head
        exact (List.nodup_cons.mp once).1 hm
    · have empty := List.head?_eq_none_iff.mp none
      exact (congrArg List.tail empty).trans rfl
  | withdraw l => exact h.dropClaim rfl (fun m _ member => member) holder
  | drive => exact h
  | clear => exact h
  | vote => exact h
  | endVote => exact h
  | restart kind voters =>
    obtain ⟨-, -, -, au, -⟩ := s.warmRestart_spec kind voters
    exact .of_unit au nofun List.nodup_nil nofun fun _ => rfl
  | rearm => exact h
  | openSession =>
    obtain ⟨-, lm, -, au, -⟩ := State.reevaluate_spec _ none
    exact h.of_lm au lm
  | write => exact h
  | abort =>
    obtain ⟨-, lm, -, au, -⟩ := State.reevaluate_spec _ none
    exact h.of_lm au lm
  | commit =>
    obtain ⟨lanes, -, au, -⟩ := s.commit_spec
    refine h.of_members au fun m member => ?_
    rw [State.laneState, lanes, LaneEntry.committed_of_joined _ (joined_of_member member)]
    exact member

/-- Settles O12: succession, claims and hand-overs choose MEMBER lanes only. -/
theorem stepsKeepAuthoritySound : Obligations.StepsKeepAuthoritySound := fun _ _ =>
  authoritySound_kept.step (fun _ _ h => h) powerOn_authoritySound powerOn_authoritySound

end Sys2Proof.Machine

/-! The invariants of the safe condition (R105), of the restart collection (R110, R112) and of the drive unit (R116,
R117). -/

namespace Sys2Proof.Machine

/-! ### What stands behind a change of a lane -/

section
variable (s : State)

theorem State.announceChange_du (l : Lane) (new : LaneState) (cause : LaneCause) :
    (s.announceChange l new cause).du = s.du := by
  obtain ⟨-, -, -, -, -, du, -⟩ := (s.enterLane l new cause).laneNotices_spec l (s.laneState l) new cause
  rw [State.announceChange, State.submit_du, du]
  obtain same | voided := s.enterLane_eq_or l new cause
  · rw [same]; rfl
  · rw [voided]; rfl

/-- A change of a lane ends in the re-evaluation of the safe condition, before which the configuration, the drive unit
and Safe Control stand as they did, but for the vote of a lane that leaves MEMBER (R68). -/
theorem State.changeLane_reevaluates (l : Lane) (new : LaneState) (cause : LaneCause) :
    ∃ u : State, s.changeLane l new cause = u.reevaluate (some l) ∧ u.cu = s.cu ∧ u.du = s.du ∧
      u.sc.flag = s.sc.flag ∧ u.sc.safeN = s.sc.safeN ∧
      u.sc.collection =
        if s.laneState l = .member ∧ new ≠ .member then s.sc.collection.bind (Collection.without l)
        else s.sc.collection := by
  have base := s.announceChange_base l new cause
  have sc := s.announceChange_sc l new cause
  have du := s.announceChange_du l new cause
  rw [State.changeLane_eq]
  by_cases leaves : s.laneState l = .member ∧ new ≠ .member
  · obtain ⟨succeeded, -, -, du', sc', -⟩ := (s.announceChange l new cause).succeed_spec l
    have left : (s.laneState l == .member && new != .member) = true := by simpa using leaves
    rw [if_pos leaves, left]
    refine ⟨_, rfl, (succeeded.cu.trans base.cu), du'.trans du, ?_⟩
    simp [State.removeVoter, sc', sc]
  · have stays : (s.laneState l == .member && new != .member) = false := by simpa using leaves
    rw [if_neg leaves, stays]
    exact ⟨_, rfl, base.cu, du, congrArg SafeControl.flag sc, congrArg SafeControl.safeN sc,
      congrArg SafeControl.collection sc⟩

theorem State.members_of_states {s t : State} (same : ∀ m, t.laneState m = s.laneState m) : t.members = s.members :=
  PerLane.eq_of_get fun m => by rw [State.get_members, State.get_members, same]

theorem State.memberCount_of_states {s t : State} (same : ∀ m, t.laneState m = s.laneState m) :
    t.memberCount = s.memberCount :=
  congrArg LaneSet.count (State.members_of_states same)

theorem State.laneState_counts {l : Lane} {e : LaneEntry} (same : e.state = s.laneState l) (m : Lane) :
    (s.putLane l e).laneState m = s.laneState m := by
  rw [State.laneState_putLane]
  split
  next here => rw [same, here]
  next => rfl

theorem State.commit_du : s.commit.du = s.du.reinit s.cu.staging := by
  obtain ⟨-, -, du, -, -, cu, -⟩ := s.commitRecorded_rest
  obtain ⟨-, -, -, -, -, -, -, handed⟩ := s.commitRecorded.reevaluate_spec none
  rw [State.commit_eq, handed, du, cu, DriveUnit.handSafeValues_reinit, ite_self]

end

/-! ### Moved lanes and closings, for an invariant that lets the counts of a lane pass -/

/-- What consequences do to a property, when it does not read votes, notices or journal, is what changed lanes do. -/
theorem State.moved_keeps {Q : State → Prop}
    (change : ∀ (s : State) (l : Lane) (new : LaneState) (cause : LaneCause), s.laneState l ≠ .absent → new ≠ .absent →
      new ≠ s.laneState l → Q s → Q (s.changeLane l new cause))
    {s : State} {l : Lane} {e : LaneEntry} {new : LaneState} {cause : LaneCause} (may : s.MayMove l e new cause)
    (h : Q (s.putLane l e)) : Q ((s.putLane l e).moveLane l new cause) := by
  have kept := s.laneState_counts may.same l
  exact State.moveLane_keeps change cause (by rw [kept]; exact may.present) may.stays (by rw [kept]; exact may.differs) h

/-! ### The safe condition (R105) -/

theorem State.safeShould_iff (s : State) :
    s.shouldBeSafe = true ↔ s.cu.mode = .config ∨ s.memberCount < s.global.minMembers := by
  simp [State.shouldBeSafe, safeShouldHold]

theorem State.SafetySound.of_states {s t : State} (h : s.SafetySound) (cu : t.cu = s.cu) (sc : t.sc.flag = s.sc.flag)
    (pin : t.sc.safeN = s.sc.safeN) (same : ∀ m, t.laneState m = s.laneState m) : t.SafetySound := by
  obtain ⟨flag, low, active, staging⟩ := h
  rw [State.SafetySound, State.global, cu, sc, pin, State.memberCount_of_states same]
  exact ⟨flag, low, active, staging⟩

/-- The re-evaluation makes the flag what the mode and the members ask, and the pin follows it. -/
theorem State.reevaluate_safetySound {u : State} (sub : Option Lane) (pin : u.sc.safeN = .low ↔ u.sc.flag = true)
    (active : 1 ≤ u.cu.active.global.minMembers) (staging : 1 ≤ u.cu.staging.global.minMembers) :
    (u.reevaluate sub).SafetySound := by
  obtain ⟨base, lm, -, -, flag, level, -⟩ := u.reevaluate_spec sub
  have count := State.memberCount_of_states (State.laneState_of_lm lm)
  refine ⟨?_, ?_, base.cu ▸ active, base.cu ▸ staging⟩
  · rw [flag, count, base.global, base.cu]
    exact u.safeShould_iff
  · rw [flag, level]
    split
    next same => rw [← same]; exact pin
    next => cases u.shouldBeSafe <;> simp [safeLevel]

theorem State.SafetySound.reevaluate {s u : State} (h : s.SafetySound) (sub : Option Lane) (flag : u.sc.flag = s.sc.flag)
    (pin : u.sc.safeN = s.sc.safeN) (active : 1 ≤ u.cu.active.global.minMembers)
    (staging : 1 ≤ u.cu.staging.global.minMembers) : (u.reevaluate sub).SafetySound := by
  obtain ⟨-, low, -⟩ := h
  exact State.reevaluate_safetySound sub (by rw [flag, pin]; exact low) active staging

theorem State.SafetySound.changeLane {s : State} (h : s.SafetySound) (l : Lane) (new : LaneState) (cause : LaneCause) :
    (s.changeLane l new cause).SafetySound := by
  obtain ⟨u, result, cu, -, flag, pin, -⟩ := s.changeLane_reevaluates l new cause
  obtain ⟨-, -, active, staging⟩ := id h
  rw [result]
  exact h.reevaluate (some l) flag pin (cu ▸ active) (cu ▸ staging)

theorem safetySound_kept : Kept (fun _ => True) State.SafetySound := by
  refine Kept.of_voteless (fun s p v h => h) fun s t change h => ?_
  obtain ⟨-, low, active, staging⟩ := id h
  cases change with
  | consequence c =>
    cases c with
    | submit sub b => exact h.of_states (by simp) (by simp) (by simp) (fun m => s.submit_laneState sub b m)
    | notify => exact h
    | handOff => exact h
    | counts l e same => exact h.of_states rfl rfl rfl (s.laneState_counts same)
    | move l e new cause may =>
      exact State.moved_keeps (fun u l new cause _ _ _ hu => hu.changeLane l new cause) may
        (h.of_states rfl rfl rfl (s.laneState_counts may.same))
  | tick => exact h
  | links => exact h
  | sent => exact h
  | slots => exact h
  | claim =>
    obtain ⟨base, -, lm, -, -, sc⟩ := s.changeHolder_spec _ _ _ _
    exact h.of_states base.cu (congrArg SafeControl.flag sc) (congrArg SafeControl.safeN sc) (State.laneState_of_lm lm)
  | queueClaim => exact h
  | yield =>
    obtain ⟨base, -, lm, -, -, sc⟩ := s.changeHolder_spec _ _ _ _
    exact h.of_states base.cu (congrArg SafeControl.flag sc) (congrArg SafeControl.safeN sc) (State.laneState_of_lm lm)
  | withdraw => exact h
  | drive => exact h
  | clear => exact h
  | vote => exact h
  | endVote => exact h
  | restart kind voters =>
    obtain ⟨lanes, -, -, -, sc⟩ := s.warmRestart_spec kind voters
    have base := s.warmRestart_base kind voters
    have none : (s.warmRestart kind voters).memberCount = 0 := State.memberCount_eq_zero_iff _ |>.mpr fun l member => by
      have apart := (s.lane l).restarted_apart
      rw [← lanes, show ((s.warmRestart kind voters).lane l).state = .member from member] at apart
      cases apart
    rw [State.SafetySound, sc, none, State.global, base.cu]
    exact ⟨iff_of_true rfl (.inr active), iff_of_true rfl rfl, active, staging⟩
  | rearm => exact h
  | openSession => exact h.reevaluate _ rfl rfl active active
  | write i _ _ global =>
    refine ⟨h.1, low, active, ?_⟩
    obtain same | ⟨⟨members, -⟩, -⟩ := global
    · exact same ▸ staging
    · exact members
  | abort => exact h.reevaluate _ rfl rfl active active
  | commit =>
    obtain ⟨-, -, -, -, sc, cu, -⟩ := s.commitRecorded_rest
    rw [State.commit_eq]
    exact h.reevaluate none (congrArg SafeControl.flag sc) (congrArg SafeControl.safeN sc) (cu ▸ staging) (cu ▸ staging)

/-- Settles O13: whatever changes the mode or a MEMBER ends in the re-evaluation of the safe condition. -/
theorem stepsKeepTheSafeConditionSound : Obligations.StepsKeepTheSafeConditionSound := fun _ _ =>
  safetySound_kept.step (fun _ _ h => h) powerOn_safetySound powerOn_safetySound

/-! ### The restart collection (R110, R112) -/

/-- The collection stays sound where it is kept and no MEMBER is lost. -/
theorem State.CollectionSound.of_members {s t : State} (h : s.CollectionSound)
    (same : t.sc.collection = s.sc.collection) (stay : ∀ m, s.laneState m = .member → t.laneState m = .member) :
    t.CollectionSound := by
  intro c open'
  obtain ⟨voted, members⟩ := h c (same ▸ open')
  exact ⟨voted, fun l voter => stay l (members l voter)⟩

theorem State.CollectionSound.changeLane {s : State} (h : s.CollectionSound) (l : Lane) (new : LaneState)
    (cause : LaneCause) : (s.changeLane l new cause).CollectionSound := by
  obtain ⟨u, result, -, -, -, -, collection⟩ := s.changeLane_reevaluates l new cause
  have lanes := s.laneState_changeLane l new cause
  have open' : (s.changeLane l new cause).sc.collection = u.sc.collection := by
    rw [result, State.reevaluate_collection]
  rw [collection] at open'
  split at open'
  next leaves =>
    intro c open''
    obtain ⟨old, was, left⟩ := Option.bind_eq_some_iff.mp (open'.symm.trans open'')
    obtain ⟨-, members⟩ := h old was
    unfold Collection.without at left
    dsimp only at left
    split at left
    · cases left
    next voted =>
      cases left
      refine ⟨by simpa using voted, fun m voter => ?_⟩
      rw [LaneSet.get_remove] at voter
      split at voter
      · cases voter
      next other => rw [lanes, if_neg other]; exact members m voter
  next stays =>
    refine h.of_members open' fun m member => ?_
    rw [lanes]
    split
    next here => exact by_contra fun leaves => stays ⟨here ▸ member, leaves⟩
    next => exact member

theorem LaneSet.get_single (l m : Lane) : (LaneSet.single l).get m = decide (m = l) := by
  cases l <;> cases m <;> rfl

theorem State.collectionWith_sound {s : State} (h : s.CollectionSound) {l : Lane} (member : s.laneState l = .member) :
    (s.collectionWith l).voters.isEmpty = false ∧
      ∀ m, (s.collectionWith l).voters.get m = true → s.laneState m = .member := by
  have own : (s.collectionWith l).voters.get l = true := by
    unfold State.collectionWith
    split
    · rw [LaneSet.get_single, decide_eq_true rfl]
    · rw [LaneSet.get_insert, if_pos rfl]
  refine ⟨Bool.eq_false_iff.mpr fun empty => ?_, fun m voter => ?_⟩
  · rw [(LaneSet.isEmpty_iff _).mp empty l] at own
    cases own
  · unfold State.collectionWith at voter
    split at voter
    next =>
      rw [LaneSet.get_single, decide_eq_true_iff] at voter
      rw [voter, member]
    next c was =>
      rw [LaneSet.get_insert] at voter
      split at voter
      next same => rw [same, member]
      next => exact (h c was).2 m voter

theorem collectionSound_kept : Kept (fun _ => True) State.CollectionSound := by
  refine Kept.of_voteless (fun s p v h => h) fun s t change h => ?_
  have of_lm : ∀ t : State, t.lm = s.lm → t.sc.collection = s.sc.collection → t.CollectionSound := fun t lm same =>
    h.of_members same fun m member => (State.laneState_of_lm lm m).trans member
  cases change with
  | consequence c =>
    cases c with
    | submit sub b => exact of_lm _ (s.submit_lm sub b) (by simp)
    | notify => exact h
    | handOff => exact h
    | counts l e same => exact h.of_members rfl fun m member => (s.laneState_counts same m).trans member
    | move l e new cause may =>
      exact State.moved_keeps (fun u l new cause _ _ _ hu => hu.changeLane l new cause) may
        (h.of_members (t := s.putLane l e) rfl fun m member => (s.laneState_counts may.same m).trans member)
  | tick => exact h
  | links => exact h
  | sent => exact h
  | slots => exact h
  | claim =>
    obtain ⟨-, -, lm, -, -, sc⟩ := s.changeHolder_spec _ _ _ _
    exact of_lm _ lm (congrArg SafeControl.collection sc)
  | queueClaim => exact h
  | yield =>
    obtain ⟨-, -, lm, -, -, sc⟩ := s.changeHolder_spec _ _ _ _
    exact of_lm _ lm (congrArg SafeControl.collection sc)
  | withdraw => exact h
  | drive => exact h
  | clear => exact h
  | vote l member =>
    rintro _ ⟨⟩
    exact State.collectionWith_sound h member
  | endVote => exact nofun
  | restart kind voters =>
    obtain ⟨-, -, -, -, sc⟩ := s.warmRestart_spec kind voters
    intro c open'
    rw [sc] at open'
    cases open'
  | rearm => exact h
  | openSession =>
    obtain ⟨-, lm, -, -, -, -, collection, -⟩ := State.reevaluate_spec _ none
    exact of_lm _ lm collection
  | write => exact h
  | abort =>
    obtain ⟨-, lm, -, -, -, -, collection, -⟩ := State.reevaluate_spec _ none
    exact of_lm _ lm collection
  | commit =>
    obtain ⟨lanes, -, -, collection, -⟩ := s.commit_spec
    refine h.of_members collection fun m member => ?_
    rw [State.laneState, lanes, LaneEntry.committed_of_joined _ (joined_of_member member)]
    exact member

/-- Settles O14: a voter that leaves MEMBER is removed, and only a MEMBER's vote is added. -/
theorem stepsKeepTheCollectionSound : Obligations.StepsKeepTheCollectionSound := fun _ _ =>
  collectionSound_kept.step (fun _ _ h => h) powerOn_collectionSound powerOn_collectionSound

/-! ### The drive unit (R116, R117) -/

theorem State.DriveSound.of_unit {s t : State} (h : s.DriveSound) (du : t.du = s.du)
    (active : t.cu.active = s.cu.active) : t.DriveSound := by
  have same : ∀ p, t.cfgOf p = s.cfgOf p := fun p => congrArg (fun i : Image => i.points.at p) active
  rw [State.driveSound_iff, du]
  simpa only [same] using (s.driveSound_iff).mp h

theorem State.DriveSound.reevaluate {s u : State} (h : s.DriveSound) (du : u.du = s.du)
    (active : u.cu.active = s.cu.active) (sub : Option Lane) : (u.reevaluate sub).DriveSound := by
  obtain ⟨base, -, -, -, -, -, -, handed⟩ := u.reevaluate_spec sub
  have before : u.DriveSound := h.of_unit du active
  rw [State.driveSound_iff, handed]
  simp only [base.cfgOf]
  split
  · exact DriveUnit.Sound.handSafeValues ((u.driveSound_iff).mp before) _
  · exact before

theorem State.DriveSound.changeLane {s : State} (h : s.DriveSound) (l : Lane) (new : LaneState) (cause : LaneCause) :
    (s.changeLane l new cause).DriveSound := by
  obtain ⟨u, result, cu, du, -⟩ := s.changeLane_reevaluates l new cause
  rw [result]
  exact h.reevaluate du (congrArg ConfigUnit.active cu) (some l)

theorem driveSound_kept {A : ReqKind → Prop} : Kept A State.DriveSound := by
  refine Kept.of_voteless (fun s p v h => h) fun s t change h => ?_
  have of_base : ∀ t : State, s.SameBase t → t.du = s.du → t.DriveSound := fun t base du =>
    h.of_unit du (congrArg ConfigUnit.active base.cu)
  cases change with
  | consequence c =>
    cases c with
    | submit sub b => exact of_base _ (s.submit_base sub b) (s.submit_du sub b)
    | notify => exact h
    | handOff p v => exact DriveUnit.Sound.handOff ((s.driveSound_iff).mp h) _ _ _
    | counts => exact h
    | move l e new cause may =>
      exact State.moved_keeps (fun u l new cause _ _ _ hu => hu.changeLane l new cause) may h
  | tick => exact h
  | links => exact h
  | sent => exact h
  | slots => exact h
  | claim =>
    obtain ⟨base, -, -, -, du, -⟩ := s.changeHolder_spec _ _ _ _
    exact of_base _ base du
  | queueClaim => exact h
  | yield =>
    obtain ⟨base, -, -, -, du, -⟩ := s.changeHolder_spec _ _ _ _
    exact of_base _ base du
  | withdraw => exact h
  | drive du sound => exact sound h
  | clear p faulted => exact DriveUnit.Sound.clear ((s.driveSound_iff).mp h) _ faulted
  | vote => exact h
  | endVote => exact h
  | restart kind voters =>
    obtain ⟨-, -, du, -⟩ := s.warmRestart_spec kind voters
    rw [State.driveSound_iff, du]
    refine DriveUnit.reinit_sound _ _ fun p enabled => ?_
    rwa [(s.warmRestart_base kind voters).cfgOf] at enabled
  | rearm => exact h
  | openSession => exact h.reevaluate (by rfl) (by rfl) none
  | write => exact h
  | abort => exact h.reevaluate (by rfl) (by rfl) none
  | commit =>
    obtain ⟨-, -, -, -, cu, -⟩ := s.commit_spec
    rw [State.driveSound_iff, s.commit_du]
    refine DriveUnit.reinit_sound _ _ fun p enabled => ?_
    rwa [State.cfgOf, cu] at enabled

/-- Settles O15: each operation of the drive unit moves a point between the queue, the echo table and rest. -/
theorem stepsKeepTheDriveSound : Obligations.StepsKeepTheDriveSound := fun _ _ =>
  driveSound_kept.step (fun _ _ h => h) powerOn_driveSound powerOn_driveSound

end Sys2Proof.Machine

/-! The invariants of the notice queues (R143, R144) and of the Incident Journal (R152 to R155). -/

namespace Sys2Proof.Machine

/-! ### Notices sent -/

/-- What holds of a lane's notice box whatever its state (R143). -/
def NoticeBox.Bounded (b : NoticeBox) : Prop := b.queue.length ≤ 16 ∧ b.lost ≤ 255

/-- What holds of the notice box of a lane in this state (R143, R144). -/
def NoticeBox.Fits (state : LaneState) (b : NoticeBox) : Prop :=
  b.queue.length ≤ 16 ∧ b.lost ≤ 255 ∧ (state = .down ∨ state = .absent → b.queue = [] ∧ b.lost = 0) ∧
    (state = .excluded → b.queue.length ≤ 1 ∧ b.lost = 0)

theorem State.noticesSound_iff {s : State} : s.NoticesSound ↔ ∀ l, (s.nu.get l).Fits (s.laneState l) := Iff.rfl

theorem NoticeBox.Fits.bounded {state : LaneState} {b : NoticeBox} (h : b.Fits state) : b.Bounded := ⟨h.1, h.2.1⟩

theorem NoticeBox.Bounded.fits_joined {state : LaneState} {b : NoticeBox} (h : b.Bounded) (joined : state.joined = true) :
    b.Fits state := by
  obtain ⟨queue, lost⟩ := h
  refine ⟨queue, lost, fun apart => ?_, fun apart => ?_⟩
  · obtain apart | apart := apart <;> rw [apart] at joined <;> cases joined
  · rw [apart] at joined
    cases joined

theorem NoticeBox.fits_of_empty {b : NoticeBox} (queue : b.queue = []) (lost : b.lost = 0) (state : LaneState) :
    b.Fits state := by
  simp [NoticeBox.Fits, queue, lost]

theorem NoticeBox.Bounded.pushAll {b : NoticeBox} (h : b.Bounded) (ns : List Notice) : (b.pushAll ns).Bounded := by
  induction ns generalizing b with
  | nil => exact h
  | cons n ns ih =>
    rw [NoticeBox.pushAll_cons]
    obtain ⟨queue, lost⟩ := h
    exact ih ⟨NoticeBox.length_push n queue, NoticeBox.lost_push n lost⟩

section
variable {s t : State}

/-- Notices sent to joined lanes only, whose states stay, fit. -/
theorem State.NoticesSound.of_follows (h : s.NoticesSound) {k : Nat} (follows : s.Follows k t)
    (same : ∀ m, t.laneState m = s.laneState m) : t.NoticesSound := by
  rw [State.noticesSound_iff] at h ⊢
  intro m
  rw [same]
  by_cases joined : (s.laneState m).joined = true
  · obtain ⟨ns, box⟩ := follows.told m (by rwa [same])
    rw [box]
    exact ((h m).bounded.pushAll ns).fits_joined joined
  · obtain ⟨-, box⟩ := follows.apart m (Bool.not_eq_true _ ▸ joined)
    rw [box]
    exact h m

theorem State.NoticesSound.of_same (h : s.NoticesSound) (nu : t.nu = s.nu)
    (same : ∀ m, t.laneState m = s.laneState m) : t.NoticesSound := by
  rw [State.noticesSound_iff] at h ⊢
  intro m
  rw [same, nu]
  exact h m

end

theorem State.NoticesSound.changeLane {s : State} (h : s.NoticesSound) (l : Lane) {new : LaneState} (cause : LaneCause)
    (stays : new ≠ .absent) : (s.changeLane l new cause).NoticesSound := by
  rw [State.noticesSound_iff] at h ⊢
  intro m
  have follows := s.changeLane_follows l new cause
  have announced : (s.changeLane l new cause).laneState m = (s.announceChange l new cause).laneState m := by
    rw [State.laneState_changeLane, State.laneState_announceChange]
  by_cases joined : ((s.announceChange l new cause).laneState m).joined = true
  · obtain ⟨ns, told⟩ := s.announceChange_told l new cause joined
    obtain ⟨ms, box⟩ := follows.told m (by rwa [announced])
    rw [box, told, announced]
    exact (((h m).bounded.pushAll _).pushAll _).fits_joined joined
  · rw [Bool.not_eq_true] at joined
    obtain ⟨-, box⟩ := follows.apart m joined
    rw [box, announced]
    rw [State.laneState_announceChange] at joined ⊢
    split at joined
    next here =>
      have departed : new = .down ∨ new = .excluded := by
        cases new with
        | absent => exact absurd rfl stays
        | down => exact .inl rfl
        | excluded => exact .inr rfl
        | probation => cases joined
        | member => cases joined
      rw [here, if_pos rfl, s.announceChange_own_box l new cause departed]
      obtain rfl | rfl := departed
      · exact NoticeBox.fits_of_empty rfl rfl _
      · simp [NoticeBox.Fits]
    next other =>
      rw [if_neg other, s.announceChange_box_of_apart l new cause joined other]
      exact h m

/-! ### A warm restart empties every notice queue (R144, log 15) -/

/-- Every lane that is neither PROBATION nor MEMBER has an empty notice queue. -/
def State.QuietApart (s : State) : Prop :=
  ∀ m, (s.laneState m).joined = false → (s.nu.get m).queue = [] ∧ (s.nu.get m).lost = 0

theorem State.QuietApart.of_follows {s t : State} (h : s.QuietApart) {k : Nat} (follows : s.Follows k t)
    (same : ∀ m, t.laneState m = s.laneState m) : t.QuietApart := by
  intro m apart
  rw [same] at apart
  obtain ⟨-, box⟩ := follows.apart m apart
  rw [box]
  exact h m apart

theorem State.QuietApart.restartLane {s : State} (h : s.QuietApart) (l : Lane) : (s.restartLane l).QuietApart := by
  have put : ∀ m, m ≠ l → ((s.putLane l (s.lane l).restarted).laneState m) = s.laneState m := fun m other => by
    rw [State.laneState_putLane, if_neg other]
  have apartBefore : ∀ m, m ≠ l → ((s.putLane l (s.lane l).restarted).laneState m).joined = false →
      (s.nu.get m).queue = [] ∧ (s.nu.get m).lost = 0 := fun m other apart => h m (by rwa [put m other] at apart)
  rw [State.restartLane_eq]
  split
  next =>
    refine State.QuietApart.of_follows (s := (s.putLane l (s.lane l).restarted).emptyNotices l) (fun m apart => ?_)
      (State.submit_follows _ _ _) (fun m => State.submit_laneState _ _ _ m)
    rw [State.emptyNotices_nu, PerLane.get_set]
    split
    · exact ⟨rfl, rfl⟩
    next other => exact apartBefore m other apart
  next quiet =>
    intro m apart
    by_cases here : m = l
    · rw [Bool.or_eq_true, not_or, Bool.not_eq_true] at quiet
      exact here ▸ h l quiet.1
    · exact apartBefore m here apart

theorem State.Follows.of_unread {s t : State} (base : s.SameBase t) (lm : t.lm = s.lm) (ve : t.ve = s.ve)
    (nu : t.nu = s.nu) (ij : t.ij = s.ij) : s.Follows 1 t :=
  (State.Follows.of_same base lm ve nu ij).mono (Nat.zero_le 1)

theorem State.Follows.then_submit {s t : State} (base : s.SameBase t) (lm : t.lm = s.lm) (ve : t.ve = s.ve)
    (nu : t.nu = s.nu) (ij : t.ij = s.ij) (sub : Option Lane) (b : RecordBody) : s.Follows 1 (t.submit sub b) :=
  (State.Follows.of_same base lm ve nu ij).trans (t.submit_follows sub b)

theorem State.clearAuthority_follows (s : State) : s.Follows 1 s.clearAuthority := by
  unfold State.clearAuthority
  split
  · refine .of_unread ⟨?_, ?_, ?_, ?_, ?_, ?_⟩ ?_ ?_ ?_ ?_ <;> rfl
  · refine .then_submit ⟨?_, ?_, ?_, ?_, ?_, ?_⟩ ?_ ?_ ?_ ?_ _ _ <;> rfl

theorem State.restartSafe_follows (s : State) : s.Follows 1 s.restartSafe := by
  unfold State.restartSafe
  dsimp only
  split
  · refine .of_unread ⟨?_, ?_, ?_, ?_, ?_, ?_⟩ ?_ ?_ ?_ ?_ <;> rfl
  · refine .then_submit ⟨?_, ?_, ?_, ?_, ?_, ?_⟩ ?_ ?_ ?_ ?_ _ _ <;> rfl

theorem State.warmRestart_quiet (s : State) (kind : RestartKind) (voters : LaneSet) (m : Lane) :
    ((s.warmRestart kind voters).nu.get m).queue = [] ∧ ((s.warmRestart kind voters).nu.get m).lost = 0 := by
  have begun : (s.restartBegun kind voters).QuietApart := fun m _ => by cases m <;> exact ⟨rfl, rfl⟩
  have lanes : (s.restartBegun kind voters).restartLanes.QuietApart :=
    ((begun.restartLane .a).restartLane .b).restartLane .c
  have cleared := (s.restartBegun kind voters).restartLanes.clearAuthority_rest.2.1
  have safe := (s.restartBegun kind voters).restartLanes.clearAuthority.restartSafe_rest.2.2.1
  have quiet := (lanes.of_follows (State.clearAuthority_follows _) (State.laneState_of_lm cleared)).of_follows
    (State.restartSafe_follows _) (State.laneState_of_lm safe)
  refine quiet m ?_
  rw [← s.warmRestart_eq kind voters, s.laneState_warmRestart kind voters m]
  exact (s.lane m).restarted_apart

/-! ### A commit empties the queues of the lanes it changes (R90) -/

theorem State.NoticesSound.commitLane {s : State} (h : s.NoticesSound) (l : Lane) : (s.commitLane l).NoticesSound := by
  have entered := (s.lane l).committed (s.global.fitted.get l)
  rw [State.commitLane_eq]
  split
  next stays =>
    refine h.of_same rfl fun m => ?_
    rw [State.laneState_putLane]
    split
    next here =>
      rw [here, LaneEntry.committed, show commitChange (s.lane l).state (s.global.fitted.get l) = none from stays]
      rfl
    next => rfl
  next new cause changes =>
    refine State.NoticesSound.of_follows (s := (s.putLane l _).emptyNotices l) ?_ (State.submit_follows _ _ _)
      (fun m => State.submit_laneState _ _ _ m)
    rw [State.noticesSound_iff] at h ⊢
    intro m
    rw [State.emptyNotices_nu, PerLane.get_set, State.emptyNotices_laneState, State.laneState_putLane]
    split
    · exact NoticeBox.fits_of_empty rfl rfl _
    · exact h m

/-! ### The notice queues (R143, R144) -/

theorem noticesSound_kept : Kept (fun _ => True) State.NoticesSound := by
  refine Kept.of_voteless (fun s p v h => h) fun s t change h => ?_
  cases change with
  | consequence c =>
    cases c with
    | submit sub b => exact h.of_follows (s.submit_follows sub b) (s.submit_laneState sub b)
    | notify r n => exact h.of_follows (s.notify_follows r n) (s.notify_laneState r n)
    | handOff => exact h
    | counts l e same => exact h.of_same rfl (s.laneState_counts same)
    | move l e new cause may =>
      exact State.moved_keeps (fun u l new cause _ stays _ hu => hu.changeLane l cause stays) may
        (h.of_same rfl (s.laneState_counts may.same))
  | tick => exact h
  | links => exact h
  | sent n x rest head =>
    rw [State.noticesSound_iff] at h ⊢
    intro m
    dsimp only
    rw [PerLane.get_set]
    split
    next here =>
      obtain ⟨queue, -, empty, excluded⟩ := h m
      rw [here] at queue empty excluded ⊢
      rw [head] at queue empty excluded
      have shorter := Nat.le_of_succ_le queue
      refine ⟨shorter, Nat.zero_le 255, fun apart => ?_, fun out => ⟨Nat.le_of_succ_le (excluded out).1, rfl⟩⟩
      cases (empty apart).1
    next => exact h m
  | slots => exact h
  | claim =>
    obtain ⟨-, -, lm, -⟩ := s.changeHolder_spec _ _ _ _
    exact h.of_follows (s.changeHolder_follows _ _ _ _) (State.laneState_of_lm lm)
  | queueClaim => exact h
  | yield =>
    obtain ⟨-, -, lm, -⟩ := s.changeHolder_spec _ _ _ _
    exact h.of_follows (s.changeHolder_follows _ _ _ _) (State.laneState_of_lm lm)
  | withdraw => exact h
  | drive => exact h
  | clear => exact h
  | vote => exact h
  | endVote => exact h
  | restart kind voters =>
    rw [State.noticesSound_iff]
    intro m
    obtain ⟨queue, lost⟩ := s.warmRestart_quiet kind voters m
    exact NoticeBox.fits_of_empty queue lost _
  | rearm => exact h
  | openSession =>
    obtain ⟨-, lm, -⟩ := State.reevaluate_spec _ none
    exact State.NoticesSound.of_follows (by exact h) (State.reevaluate_follows _ none) (State.laneState_of_lm lm)
  | write => exact h
  | abort =>
    obtain ⟨-, lm, -⟩ := State.reevaluate_spec _ none
    exact State.NoticesSound.of_follows (by exact h) (State.reevaluate_follows _ none) (State.laneState_of_lm lm)
  | commit =>
    have begun : s.imageCommitted.reinitPoints.NoticesSound := h
    have recorded : s.commitRecorded.NoticesSound :=
      (((begun.commitLane .a).commitLane .b).commitLane .c).of_follows (State.submit_follows _ _ _)
        (fun m => State.submit_laneState _ _ _ m)
    obtain ⟨-, lm, -⟩ := s.commitRecorded.reevaluate_spec none
    rw [State.commit_eq]
    exact recorded.of_follows (State.reevaluate_follows _ none) (State.laneState_of_lm lm)

/-- Settles O16: notices reach joined lanes only, and a lane that leaves has its queue emptied. -/
theorem stepsKeepTheNoticesSound : Obligations.StepsKeepTheNoticesSound := fun _ _ =>
  noticesSound_kept.step (fun _ _ h => h) powerOn_noticesSound powerOn_noticesSound

/-! ### Records stored (R152 to R155) -/

theorem numberedUpTo_append {c : Word32} {r : Record} {xs : List Record} (h : numberedUpTo c xs) (next : r.seq = c) :
    numberedUpTo (c + 1) (xs ++ [r]) := by
  induction xs with
  | nil => exact congrArg (· + 1) next
  | cons x xs ih =>
    cases xs with
    | nil => exact ⟨h.trans next.symm, congrArg (· + 1) next⟩
    | cons y ys => exact ⟨h.1, ih h.2⟩

theorem numberedUpTo_tail {c : Word32} {xs : List Record} (h : numberedUpTo c xs) : numberedUpTo c xs.tail := by
  cases xs with
  | nil => exact h
  | cons x xs =>
    cases xs with
    | nil => trivial
    | cons y ys => exact h.2

/-- What holds of the journal by itself (R152 to R155). -/
def Journal.Sound (j : Journal) : Prop :=
  j.ring.length ≤ 256 ∧ numberedUpTo j.counter j.ring ∧ (j.trigger.isSome = true ↔ j.state ≠ .recording) ∧
  (∀ t, j.trigger = some t → (j.counter - 1 - t.seq).toNat < j.ring.length) ∧
  (j.state = .postTrigger → 1 ≤ j.postCounter ∧
    ∀ t, j.trigger = some t → (j.counter - 1 - t.seq).toNat + j.postCounter ≤ 255) ∧
  j.dropped ≤ 65535 ∧ (j.state ≠ .frozen → j.dropped = 0)

theorem State.journalSound_iff {s : State} :
    s.JournalSound ↔ s.ij.Sound ∧ s.cu.active.global.postCount ≤ 255 ∧ s.cu.staging.global.postCount ≤ 255 := by
  simp only [State.JournalSound, Journal.Sound, and_assoc]

section
variable {j : Journal} (now : Time) (sub : Option Lane) (b : RecordBody)

theorem Journal.numbered_store (numbered : numberedUpTo j.counter j.ring) :
    numberedUpTo (j.store now sub b).counter (j.store now sub b).ring := by
  simp only [Journal.store]
  split
  · exact numberedUpTo_append numbered rfl
  · exact numberedUpTo_append (numberedUpTo_tail numbered) rfl

theorem Journal.length_store_eq (h : j.ring.length ≤ 256) :
    (j.store now sub b).ring.length = min 256 (j.ring.length + 1) := by
  rcases Nat.lt_or_ge j.ring.length 256 with room | full
  · rw [Journal.ring_store_of_room room, List.length_append, List.length_singleton]
    omega
  · rw [Journal.ring_store_of_full full, List.length_append, List.length_singleton, List.length_tail]
    omega

/-- The distance of the trigger record from the newest one grows by one with each record. -/
theorem distance_succ {c seq : Word32} (near : (c - 1 - seq).toNat ≤ 255) :
    (c + 1 - 1 - seq).toNat = (c - 1 - seq).toNat + 1 := by
  bv_omega

theorem Journal.Sound.submit (h : j.Sound) (m : TriggerMask) {k : Nat} (few : k ≤ 255) :
    (j.submit m k now sub b).Sound := by
  obtain ⟨length, numbered, triggered, held, counting, dropped, kept⟩ := h
  have length' := Journal.length_store_eq now sub b length
  have numbered' := Journal.numbered_store now sub b numbered
  unfold Journal.submit
  split
  next frozen =>
    exact ⟨length, numbered, triggered, held, fun post => absurd (frozen.symm.trans post) nofun,
      satInc_le _ _, fun thawed => absurd frozen thawed⟩
  next recording =>
    have untriggered : j.trigger = none := by
      rw [recording] at triggered
      simpa using triggered
    have kept := kept (by rw [recording]; nofun)
    split
    next =>
      have newest : (j.counter + 1 - 1 - j.counter).toNat = 0 := by bv_omega
      refine ⟨length'.le.trans (min_le_left _ _), numbered', iff_of_true rfl (by dsimp only; split <;> nofun), ?_, ?_,
        dropped, fun _ => kept⟩
      · rintro _ ⟨⟩
        dsimp only [Journal.store_counter]
        rw [newest, length']
        omega
      · dsimp only [Journal.store_counter]
        split
        · nofun
        next counts =>
          refine fun _ => ⟨Nat.one_le_iff_ne_zero.mpr counts, ?_⟩
          rintro _ ⟨⟩
          rw [newest]
          omega
    next =>
      refine ⟨length'.le.trans (min_le_left _ _), numbered', triggered, fun t some => ?_, fun post => ?_, dropped,
        fun _ => kept⟩
      · cases untriggered.symm.trans some
      · cases recording.symm.trans post
  next post =>
    obtain ⟨left, near⟩ := counting post
    have kept := kept (by rw [post]; nofun)
    have triggered' : j.trigger.isSome = true := triggered.mpr (by rw [post]; nofun)
    refine ⟨length'.le.trans (min_le_left _ _), numbered', iff_of_true triggered' (by dsimp only; split <;> nofun),
      fun t some => ?_, fun still => ?_, dropped, fun _ => kept⟩
    · have before := held t some
      have room := near t some
      dsimp only [Journal.store_counter]
      rw [distance_succ (by omega), length']
      omega
    · dsimp only at still
      split at still
      · cases still
      next counts =>
        refine ⟨Nat.one_le_iff_ne_zero.mpr counts, fun t some => ?_⟩
        have room := near t some
        dsimp only [Journal.store_counter]
        rw [distance_succ (by omega)]
        omega

end

section
variable {s t : State}

theorem State.JournalSound.of_records (h : s.JournalSound) (cu : t.cu = s.cu) {made : List (Option Lane × RecordBody)}
    (ij : t.ij = s.ij.submitAll s.global.triggers s.global.postCount s.time made) : t.JournalSound := by
  obtain ⟨sound, active, staging⟩ := State.journalSound_iff.mp h
  rw [State.journalSound_iff, cu, ij]
  refine ⟨?_, active, staging⟩
  unfold Journal.submitAll
  exact List.foldlRecOn (motive := Journal.Sound) made _ sound fun j hj r _ => hj.submit _ _ _ _ active

theorem State.JournalSound.of_follows (h : s.JournalSound) {k : Nat} (follows : s.Follows k t) : t.JournalSound := by
  obtain ⟨made, -, ij⟩ := follows.records
  exact h.of_records follows.base.cu ij

end

theorem State.JournalSound.changeLane {s : State} (h : s.JournalSound) (l : Lane) (new : LaneState) (cause : LaneCause) :
    (s.changeLane l new cause).JournalSound :=
  State.JournalSound.of_follows (h.of_records (s.announceChange_base l new cause).cu (s.announceChange_ij l new cause))
    (s.changeLane_follows l new cause)

theorem State.JournalSound.restartLane {s : State} (h : s.JournalSound) (l : Lane) : (s.restartLane l).JournalSound := by
  rw [State.restartLane_eq]
  split
  · exact State.JournalSound.of_follows (by exact h) (State.submit_follows _ _ _)
  · exact h

theorem State.JournalSound.commitLane {s : State} (h : s.JournalSound) (l : Lane) : (s.commitLane l).JournalSound := by
  rw [State.commitLane_eq]
  split
  · exact h
  · exact State.JournalSound.of_follows (by exact h) (State.submit_follows _ _ _)

/-! ### The journal (R152 to R155) -/

theorem journalSound_kept : Kept (fun _ => True) State.JournalSound := by
  refine Kept.of_voteless (fun s p v h => h) fun s t change h => ?_
  obtain ⟨sound, active, staging⟩ := State.journalSound_iff.mp h
  cases change with
  | consequence c =>
    cases c with
    | submit sub b => exact h.of_follows (s.submit_follows sub b)
    | notify => exact h
    | handOff => exact h
    | counts => exact h
    | move l e new cause may =>
      exact State.moved_keeps (fun u l new cause _ _ _ hu => hu.changeLane l new cause) may h
  | tick => exact h
  | links => exact h
  | sent => exact h
  | slots => exact h
  | claim => exact h.of_follows (s.changeHolder_follows _ _ _ _)
  | queueClaim => exact h
  | yield => exact h.of_follows (s.changeHolder_follows _ _ _ _)
  | withdraw => exact h
  | drive => exact h
  | clear => exact h
  | vote => exact h
  | endVote => exact h
  | restart kind voters =>
    have submitted := h.of_follows (s.submit_follows none (.restart kind voters))
    have begun : (s.restartBegun kind voters).JournalSound := submitted
    have lanes : (s.restartBegun kind voters).restartLanes.JournalSound :=
      ((begun.restartLane .a).restartLane .b).restartLane .c
    exact (lanes.of_follows (State.clearAuthority_follows _)).of_follows (State.restartSafe_follows _)
  | rearm =>
    rw [State.journalSound_iff]
    obtain ⟨length, numbered, -⟩ := sound
    exact ⟨⟨length, numbered, iff_of_false nofun fun ne => ne rfl, nofun, nofun, Nat.zero_le _, fun _ => rfl⟩, active,
      staging⟩
  | openSession =>
    refine State.JournalSound.of_follows ?_ (State.reevaluate_follows _ none)
    exact State.journalSound_iff.mpr ⟨sound, active, active⟩
  | write i _ _ global =>
    refine State.journalSound_iff.mpr ⟨sound, active, ?_⟩
    obtain same | ⟨-, -, -, -, -, -, -, -, -, few⟩ := global
    · exact same ▸ staging
    · exact few
  | abort =>
    refine State.JournalSound.of_follows ?_ (State.reevaluate_follows _ none)
    exact State.journalSound_iff.mpr ⟨sound, active, active⟩
  | commit =>
    have begun : s.imageCommitted.reinitPoints.JournalSound := State.journalSound_iff.mpr ⟨sound, staging, staging⟩
    have recorded : s.commitRecorded.JournalSound :=
      (((begun.commitLane .a).commitLane .b).commitLane .c).of_follows (State.submit_follows _ _ _)
    exact recorded.of_follows (State.reevaluate_follows _ none)

/-- Settles O17: a record takes the next sequence, and the ring is longer than the post-trigger count. -/
theorem stepsKeepTheJournalSound : Obligations.StepsKeepTheJournalSound := fun _ _ =>
  journalSound_kept.step (fun _ _ h => h) powerOn_journalSound powerOn_journalSound

end Sys2Proof.Machine

/-! The invariant of the lane table (R66, R67, R75). -/

namespace Sys2Proof.Machine

/-- The clauses of the Lane Monitor's invariant that hold between the steps of a change too: all but that no lane is
PROBATION without a MEMBER (R75). -/
def State.LanesConsistent (s : State) : Prop :=
  (∀ l, (s.lane l).Sound s.global) ∧
  (∀ l, s.laneState l = .absent ↔ s.global.fitted.get l = false) ∧
  (∀ l, (s.laneState l).joined = true → (s.link l.link).state = .run ∧ s.cu.mode = .operate) ∧
  (∀ i ∈ [s.cu.active, s.cu.staging],
    1 ≤ i.global.strikeLimit ∧ 1 ≤ i.global.decayInterval ∧ 1 ≤ i.global.probationLength)

/-- No lane is PROBATION while none is MEMBER (R75). -/
def State.ProbationBacked (s : State) : Prop := ∀ l, s.laneState l = .probation → ∃ m, s.laneState m = .member

theorem State.lanesSound_iff {s : State} : s.LanesSound ↔ s.LanesConsistent ∧ s.ProbationBacked :=
  ⟨fun ⟨entries, fitted, joined, backed, limits⟩ => ⟨⟨entries, fitted, joined, limits⟩, backed⟩,
    fun ⟨⟨entries, fitted, joined, limits⟩, backed⟩ => ⟨entries, fitted, joined, backed, limits⟩⟩

section
variable {s t : State}

theorem State.LanesSound.of_lanes (h : s.LanesSound) (lanes : ∀ m, t.lane m = s.lane m) (cu : t.cu = s.cu)
    (lu : t.lu = s.lu) : t.LanesSound := by
  have states : ∀ m, t.laneState m = s.laneState m := fun m => congrArg LaneEntry.state (lanes m)
  have links : ∀ l, t.link l = s.link l := fun l => congrArg (PerLink.get · l) lu
  simpa only [State.LanesSound, State.global, lanes, states, links, cu] using h

theorem State.LanesSound.of_base (h : s.LanesSound) (base : s.SameBase t) (lm : t.lm = s.lm) : t.LanesSound :=
  h.of_lanes (State.lane_of_lm lm) base.cu base.lu

/-- One entry replaced by a sound one that may stand there. -/
theorem State.LanesConsistent.of_entry (h : s.LanesConsistent) (base : s.SameBase t) (l : Lane)
    (others : ∀ m, m ≠ l → t.lane m = s.lane m) (sound : (t.lane l).Sound s.global)
    (present : t.laneState l = .absent ↔ s.laneState l = .absent)
    (joins : (t.laneState l).joined = true →
      (s.laneState l).joined = true ∨ s.cu.mode = .operate ∧ (s.link l.link).state = .run) : t.LanesConsistent := by
  obtain ⟨entries, fitted, joined, limits⟩ := h
  have states : ∀ m, m ≠ l → t.laneState m = s.laneState m := fun m other => congrArg LaneEntry.state (others m other)
  refine ⟨fun m => ?_, fun m => ?_, fun m here => ?_, by rw [base.cu]; exact limits⟩
  · rw [base.global]
    by_cases same : m = l
    · exact same ▸ sound
    · exact (others m same).symm ▸ entries m
  · rw [base.global, ← fitted]
    by_cases same : m = l
    · exact same ▸ present
    · rw [states m same]
  · rw [base.link, base.cu]
    by_cases same : m = l
    · subst same
      obtain was | ⟨operate, run⟩ := joins here
      · exact joined m was
      · exact ⟨run, operate⟩
    · exact joined m (states m same ▸ here)

theorem State.LanesConsistent.changeLane (h : s.LanesConsistent) (l : Lane) (new : LaneState) (cause : LaneCause)
    (sound : ((s.lane l).entered s.time s.global.exclusionHold new cause).Sound s.global)
    (present : s.laneState l ≠ .absent) (stays : new ≠ .absent)
    (joins : new.joined = true →
      (s.laneState l).joined = true ∨ s.cu.mode = .operate ∧ (s.link l.link).state = .run) :
    (s.changeLane l new cause).LanesConsistent := by
  have own := s.laneState_changeLane l new cause l
  rw [if_pos rfl] at own
  refine h.of_entry (s.changeLane_base l new cause) l (fun m other => ?_) ?_ ?_ ?_
  · rw [State.lane_changeLane, if_neg other]
  · rw [State.lane_changeLane, if_pos rfl]
    exact sound
  · rw [own]
    exact iff_of_false stays present
  · rw [own]
    exact joins

theorem State.LanesConsistent.demoteProbation (h : s.LanesConsistent) (l : Lane) :
    (s.demoteProbation l).LanesConsistent := by
  unfold State.demoteProbation
  split
  next probation =>
    exact h.changeLane l .down .noMember ((h.1 l).entered_apart _ _ _ (.inl rfl)) (by rw [probation]; nofun) nofun nofun
  next => exact h

end

/-- A lane replaced by an entry with other counts, and then moved, keeps the lane table sound (R68, R75). -/
theorem State.LanesSound.move {s : State} (h : s.LanesSound) {l : Lane} {e : LaneEntry} {new : LaneState}
    {cause : LaneCause} (may : s.MayMove l e new cause) : ((s.putLane l e).moveLane l new cause).LanesSound := by
  obtain ⟨consistent, backed⟩ := State.lanesSound_iff.mp h
  have states := s.laneState_counts may.same
  have after : ∀ m, ((s.putLane l e).changeLane l new cause).laneState m = if m = l then new else s.laneState m := by
    intro m
    rw [State.laneState_changeLane, states]
  have changed : ((s.putLane l e).changeLane l new cause).LanesConsistent := by
    have own := after l
    rw [if_pos rfl] at own
    refine consistent.of_entry ((s.putLane_base l e).trans (State.changeLane_base _ _ _ _)) l (fun m other => ?_) ?_ ?_ ?_
    · rw [State.lane_changeLane, if_neg other, State.lane_putLane, if_neg other]
    · rw [State.lane_changeLane, if_pos rfl, State.lane_putLane_self]
      exact may.sound (consistent.1 l)
    · rw [own]
      exact iff_of_false may.stays may.present
    · rw [own]
      exact may.joins
  unfold State.moveLane
  dsimp only
  split
  next =>
    have demoted : ((s.putLane l e).changeLane l new cause).demoteAll.LanesConsistent :=
      ((changed.demoteProbation .a).demoteProbation .b).demoteProbation .c
    refine State.lanesSound_iff.mpr ⟨demoted, fun m probation => ?_⟩
    have none := State.laneState_demoteAll ((s.putLane l e).changeLane l new cause) m
    rw [show ((s.putLane l e).changeLane l new cause).demoteAll.laneState m = .probation from probation] at none
    split at none
    · cases none
    next not => exact absurd none.symm not
  next left =>
    refine State.lanesSound_iff.mpr ⟨changed, fun m probation => ?_⟩
    by_cases was : s.laneState l = .member
    · rw [states, State.memberCount_eq_zero_iff, not_and, not_forall] at left
      obtain ⟨k, member⟩ := left was
      exact ⟨k, not_not.mp member⟩
    · have before : ∃ k, s.laneState k = .member := by
        rw [after] at probation
        split at probation
        · exact may.backed probation
        · exact backed m probation
      obtain ⟨k, member⟩ := before
      refine ⟨k, ?_⟩
      rw [after, if_neg (by rintro rfl; exact was member)]
      exact member

/-- A warm restart leaves every lane DOWN or ABSENT with its counters 0 (R89). -/
theorem State.LanesSound.warmRestart {s : State} (h : s.LanesSound) (kind : RestartKind) (voters : LaneSet) :
    (s.warmRestart kind voters).LanesSound := by
  obtain ⟨entries, fitted, -, -, limits⟩ := h
  have base := s.warmRestart_base kind voters
  obtain ⟨lanes, -⟩ := s.warmRestart_spec kind voters
  have states := s.laneState_warmRestart kind voters
  have apart := fun l => (s.lane l).restarted_apart
  refine ⟨fun l => ?_, fun l => ?_, fun l joined => ?_, fun l probation => ?_, by rw [base.cu]; exact limits⟩
  · obtain ⟨strikes, decay, length⟩ := limits s.cu.active List.mem_cons_self
    rw [lanes, base.global]
    unfold LaneEntry.restarted
    split
    · exact entries l
    · simp only [LaneEntry.Sound, LaneState.joined, State.global]
      exact ⟨by simp, by simp, by simp, strikes, decay, length, nofun, nofun⟩
  · rw [states, base.global, ← fitted]
    exact (s.lane l).restarted_absent_iff
  · rw [states, apart] at joined
    cases joined
  · have none := apart l
    rw [← states, probation] at none
    cases none

/-- A commit changes a lane that is not joined exactly where its fitting does, and to a state that is not joined. -/
theorem commitChange_apart {state : LaneState} (apart : state.joined = false) (fitted : Bool) :
    (commitChange state fitted = none → (state = .absent ↔ fitted = false)) ∧
      ∀ new cause, commitChange state fitted = some (new, cause) →
        new.joined = false ∧ new ≠ .excluded ∧ (new = .absent ↔ fitted = false) := by
  cases state with
  | probation => cases apart
  | member => cases apart
  | absent => cases fitted <;> simp +contextual [commitChange, LaneState.joined, eq_comm]
  | down => cases fitted <;> simp +contextual [commitChange, LaneState.joined, eq_comm]
  | excluded => cases fitted <;> simp +contextual [commitChange, LaneState.joined, eq_comm]

/-- An entry that is not joined, with no count and no beat timer, is sound under any limits (R66). -/
theorem LaneEntry.sound_of_apart {e : LaneEntry} {g : GlobalCfg} (apart : e.state.joined = false)
    (zero : e.strikes = 0 ∧ e.cleanRun = 0 ∧ e.credit = 0) (beat : e.beatDeadline = none)
    (hold : e.holdDeadline.isSome = true ↔ e.state = .excluded)
    (limits : 1 ≤ g.strikeLimit ∧ 1 ≤ g.decayInterval ∧ 1 ≤ g.probationLength) : e.Sound g := by
  obtain ⟨strikes, run, credit⟩ := zero
  refine ⟨fun _ => ⟨strikes, run, credit⟩, ?_, hold, ?_, ?_, ?_, fun _ => ⟨strikes, run⟩, fun _ => credit⟩
  · rw [beat, apart]
    simp
  · rw [strikes]; exact limits.1
  · rw [run]; exact limits.2.1
  · rw [credit]; exact limits.2.2

theorem LaneEntry.Sound.committed {e : LaneEntry} {g g' : GlobalCfg} (h : e.Sound g) (apart : e.state.joined = false)
    (fitted : Bool) (limits : 1 ≤ g'.strikeLimit ∧ 1 ≤ g'.decayInterval ∧ 1 ≤ g'.probationLength) :
    ((e.committed fitted).state = .absent ↔ fitted = false) ∧ (e.committed fitted).state.joined = false ∧
      (e.committed fitted).Sound g' := by
  obtain ⟨zero, beat, hold, -⟩ := h
  have noBeat : e.beatDeadline = none := by simpa [apart] using beat
  obtain ⟨stays, changes⟩ := commitChange_apart apart fitted
  unfold LaneEntry.committed
  cases change : commitChange e.state fitted with
  | none => exact ⟨stays change, apart, sound_of_apart apart (zero apart) noBeat hold limits⟩
  | some to' =>
    obtain ⟨newApart, notExcluded, absent⟩ := changes to'.1 to'.2 change
    exact ⟨absent, newApart, sound_of_apart newApart ⟨rfl, rfl, rfl⟩ rfl (by simpa using notExcluded) limits⟩

/-- A commit, which finds no lane joined, fits the lanes to the new image (R90). -/
theorem State.LanesSound.commit {s : State} (h : s.LanesSound) (config : s.cu.mode = .config) :
    s.commit.LanesSound := by
  obtain ⟨entries, -, joined, -, limits⟩ := h
  obtain ⟨lanes, -, -, -, cu, -⟩ := s.commit_spec
  obtain ⟨strikes, decay, length⟩ := limits s.cu.staging (List.mem_cons_of_mem _ List.mem_cons_self)
  have global : s.commit.global = s.cu.staging.global := congrArg (fun u : ConfigUnit => u.active.global) cu
  have out : ∀ l, (s.lane l).state.joined = false := fun l => by
    by_contra here
    rw [Bool.not_eq_false] at here
    cases (joined l here).2.symm.trans config
  have settled : ∀ l, (s.commit.laneState l = .absent ↔ s.cu.staging.global.fitted.get l = false) ∧
      (s.commit.laneState l).joined = false ∧ (s.commit.lane l).Sound s.cu.staging.global := by
    intro l
    rw [State.laneState, lanes]
    exact (entries l).committed (out l) _ ⟨strikes, decay, length⟩
  refine ⟨fun l => ?_, fun l => ?_, fun l here => ?_, fun l probation => ?_, fun i hi => ?_⟩
  · rw [global]
    exact (settled l).2.2
  · rw [global]
    exact (settled l).1
  · rw [(settled l).2.1] at here
    cases here
  · have none := (settled l).2.1
    rw [probation] at none
    cases none
  · rw [cu] at hi
    have same : i = s.cu.staging := by simpa using hi
    rw [same]
    exact ⟨strikes, decay, length⟩

theorem lanesSound_kept : Kept (fun _ => True) State.LanesSound := by
  refine Kept.of_voteless (fun s p v h => h) fun s t change h => ?_
  obtain ⟨entries, fitted, joined, backed, limits⟩ := id h
  have limitsOf : ∀ cu : ConfigUnit, cu.active = s.cu.active → cu.staging = s.cu.active →
      ∀ i ∈ [cu.active, cu.staging],
        1 ≤ i.global.strikeLimit ∧ 1 ≤ i.global.decayInterval ∧ 1 ≤ i.global.probationLength := by
    intro cu active staging i hi
    have same : i = s.cu.active := by simpa [active, staging] using hi
    exact same ▸ limits s.cu.active List.mem_cons_self
  cases change with
  | consequence c =>
    cases c with
    | submit sub b => exact h.of_base (s.submit_base sub b) (s.submit_lm sub b)
    | notify => exact h
    | handOff => exact h
    | counts l e same sound =>
      have states := s.laneState_counts same
      refine State.lanesSound_iff.mpr ⟨?_, fun m probation => ?_⟩
      · refine (State.lanesSound_iff.mp h).1.of_entry (s.putLane_base l e) l (fun m other => ?_) ?_ ?_ fun here => ?_
        · rw [State.lane_putLane, if_neg other]
        · rw [State.lane_putLane_self]
          exact sound (entries l)
        · rw [states]
        · exact .inl (states l ▸ here)
      · simp only [states] at probation ⊢
        exact backed m probation
    | move l e new cause may => exact h.move may
  | tick => exact h
  | links lu keeps =>
    exact ⟨entries, fitted, fun l here => ⟨keeps l here (joined l here).1, (joined l here).2⟩, backed, limits⟩
  | sent => exact h
  | slots => exact h
  | claim =>
    obtain ⟨base, -, lm, -⟩ := s.changeHolder_spec _ _ _ _
    exact h.of_base base lm
  | queueClaim => exact h
  | yield =>
    obtain ⟨base, -, lm, -⟩ := s.changeHolder_spec _ _ _ _
    exact h.of_base base lm
  | withdraw => exact h
  | drive => exact h
  | clear => exact h
  | vote => exact h
  | endVote => exact h
  | restart kind voters => exact h.warmRestart kind voters
  | rearm => exact h
  | openSession _ left =>
    obtain ⟨base, lm, -⟩ := State.reevaluate_spec _ none
    refine State.LanesSound.of_base ?_ base lm
    refine ⟨entries, fitted, fun l here => ?_, backed, limitsOf _ rfl rfl⟩
    cases (left l).symm.trans here
  | write i _ _ global =>
    refine ⟨entries, fitted, joined, backed, fun j hj => ?_⟩
    obtain rfl | hj := List.mem_cons.mp hj
    · exact limits s.cu.active List.mem_cons_self
    · obtain rfl := List.mem_singleton.mp hj
      obtain same | ⟨-, strikes, decay, length, -⟩ := global
      · exact same ▸ limits s.cu.staging (List.mem_cons_of_mem _ List.mem_cons_self)
      · exact ⟨strikes.1, decay.1, length.1⟩
  | abort =>
    obtain ⟨base, lm, -⟩ := State.reevaluate_spec _ none
    refine State.LanesSound.of_base ?_ base lm
    exact ⟨entries, fitted, fun l here => ⟨(joined l here).1, rfl⟩, backed, limitsOf _ rfl rfl⟩
  | commit config => exact h.commit config

/-- Settles O11: a lane joins over a link in RUN in OPERATE mode only, and the last MEMBER's departure takes the PROBATION
lanes along. -/
theorem stepsKeepTheLanesSound : Obligations.StepsKeepTheLanesSound := fun _ _ =>
  lanesSound_kept.step (fun _ _ h => h) powerOn_lanesSound held_lanesSound

end Sys2Proof.Machine

/-! The invariant of the vote slots (R24, R27, R33): kept by every change of a lane, and restored by every closing, in
whose course the slot that has become the slot for N may be RIPE or complete. -/

namespace Sys2Proof.Machine

/-! ### Slots in order -/

/-- At most two slots, for N and N+1 in that order, the second RIPE where it is complete: what `slotsInOrder` says
besides that the first is OPEN. -/
def slotsSerial (next : Serial) : List Slot → Prop
  | [] => True
  | [x] => x.serial = next
  | [x, y] => x.serial = next ∧ y.serial = next + 1 ∧ (y.state = .opened → y.complete = false)
  | _ => False

/-- The slot for N, where there is one, is OPEN. -/
def firstOpen (xs : List Slot) : Prop := ∀ x ∈ xs.head?, x.state = .opened

theorem slotsInOrder_iff (next : Serial) (xs : List Slot) :
    slotsInOrder next xs ↔ slotsSerial next xs ∧ firstOpen xs := by
  match xs with
  | [] => simp [slotsInOrder, slotsSerial, firstOpen]
  | [x] => simp [slotsInOrder, slotsSerial, firstOpen]
  | [x, y] =>
    simp only [slotsInOrder, slotsSerial, firstOpen, List.head?_cons, Option.mem_some_iff, forall_eq']
    constructor
    · rintro ⟨first, opened, second, incomplete⟩
      exact ⟨⟨first, second, incomplete⟩, opened⟩
    · rintro ⟨⟨first, second, incomplete⟩, opened⟩
      exact ⟨first, opened, second, incomplete⟩
  | _ :: _ :: _ :: _ => simp [slotsInOrder, slotsSerial]

section
variable {l : Lane} {x : Slot}

theorem Slot.hasProposal_without (m : Lane) : (x.without l).hasProposal m = true ↔ m ≠ l ∧ x.hasProposal m = true := by
  simp only [Slot.hasProposal_iff, Slot.without, List.mem_filter, bne_iff_ne]
  constructor
  · rintro ⟨q, ⟨held, other⟩, rfl⟩
    exact ⟨other, q, held, rfl⟩
  · rintro ⟨other, q, held, rfl⟩
    exact ⟨q, ⟨held, other⟩, rfl⟩

theorem Slot.complete_without (h : x.complete = true) : (x.without l).complete = true := by
  rw [Slot.complete_iff] at h ⊢
  intro m onRoll
  rw [Slot.without, LaneSet.get_remove] at onRoll
  split at onRoll
  · cases onRoll
  next other => exact (Slot.hasProposal_without m).mpr ⟨other, h m onRoll⟩

/-- A slot whose roll did not shrink is complete only where it was. -/
theorem Slot.complete_of_without (offRoll : x.roll.get l = false) (h : (x.without l).complete = true) :
    x.complete = true := by
  rw [Slot.complete_iff] at h ⊢
  intro m onRoll
  have other : m ≠ l := by
    rintro rfl
    rw [offRoll] at onRoll
    cases onRoll
  refine ((Slot.hasProposal_without m).mp (h m ?_)).2
  rw [Slot.without, LaneSet.get_remove, if_neg other]
  exact onRoll

theorem Slot.Sound.without {electorate before after : LaneSet} (h : x.Sound electorate before)
    (stay : ∀ m, m ≠ l → before.get m = true → after.get m = true) : (x.without l).Sound electorate after := by
  obtain ⟨roll, once, lanes, ripe⟩ := h
  refine ⟨fun m onRoll => ?_, ?_, fun q hq => ?_, fun state => Slot.complete_without (ripe state)⟩
  · rw [Slot.without, LaneSet.get_remove] at onRoll
    split at onRoll
    · cases onRoll
    next other => exact ⟨(roll m onRoll).1, stay m other (roll m onRoll).2⟩
  · exact once.sublist (List.filter_sublist.map _)
  · obtain ⟨held, other⟩ := List.mem_filter.mp hq
    rw [Slot.without, LaneSet.get_remove, if_neg (by simpa using other)]
    exact lanes q held

theorem Slot.Sound.withoutSuccessor {electorate before after : LaneSet} (h : x.Sound electorate before)
    (stay : ∀ m, m ≠ l → before.get m = true → after.get m = true) :
    (x.withoutSuccessor l).Sound electorate after := by
  have left := h.without stay
  unfold Slot.withoutSuccessor
  dsimp only
  split
  next found =>
    obtain ⟨roll, once, lanes, -⟩ := left
    exact ⟨roll, once, lanes, fun _ => found.2.2⟩
  next => exact left

theorem Slot.withoutSuccessor_serial : (x.withoutSuccessor l).serial = x.serial := by
  unfold Slot.withoutSuccessor
  dsimp only
  split <;> rfl

theorem Slot.withoutSuccessor_incomplete (h : x.state = .opened → x.complete = false)
    (still : (x.withoutSuccessor l).state = .opened) : (x.withoutSuccessor l).complete = false := by
  unfold Slot.withoutSuccessor at still ⊢
  dsimp only at still ⊢
  split at still
  · cases still
  next kept =>
    rw [if_neg kept]
    by_contra complete
    rw [Bool.not_eq_false] at complete
    by_cases onRoll : x.roll.get l = true
    · exact kept ⟨onRoll, still, complete⟩
    · rw [Bool.not_eq_true] at onRoll
      cases (h still).symm.trans (Slot.complete_of_without onRoll complete)

end

theorem slotsSerial_void {l : Lane} {next : Serial} {xs : List Slot} (h : slotsSerial next xs) :
    slotsSerial next (voidSlots l xs) := by
  match xs, h with
  | [], _ => trivial
  | [x], first => exact first
  | [x, y], ⟨first, second, incomplete⟩ =>
    exact ⟨first, Slot.withoutSuccessor_serial.trans second, Slot.withoutSuccessor_incomplete incomplete⟩

theorem firstOpen_void {l : Lane} {xs : List Slot} (h : firstOpen xs) : firstOpen (voidSlots l xs) := by
  cases xs with
  | nil => exact h
  | cons x rest =>
    rintro _ ⟨⟩
    exact h x rfl

theorem voidSlots_length (l : Lane) (xs : List Slot) : (voidSlots l xs).length = xs.length := by
  cases xs <;> simp [voidSlots]

theorem Slot.Sound.mono {electorate before after : LaneSet} {x : Slot} (h : x.Sound electorate before)
    (stay : ∀ m, before.get m = true → after.get m = true) : x.Sound electorate after := by
  obtain ⟨roll, once, lanes, ripe⟩ := h
  exact ⟨fun m onRoll => ⟨(roll m onRoll).1, stay m (roll m onRoll).2⟩, once, lanes, ripe⟩

/-! ### The votes, with the slots for N of some points not settled yet -/

/-- The Vote Engine's invariant, where the slot for N is known to be OPEN at the points of `settled` only. -/
def State.VotesHold (settled : Fin 64 → Prop) (s : State) : Prop :=
  ∀ p, slotsSerial (s.voteOf p).next (s.voteOf p).slots ∧ (settled p → firstOpen (s.voteOf p).slots) ∧
    (∀ x ∈ (s.voteOf p).slots, x.Sound (s.cfgOf p).electorate s.joined) ∧
    ((s.cfgOf p).enabled = false ∨ s.cu.mode = .config → (s.voteOf p).slots = [])

theorem State.votesSound_iff {s : State} : s.VotesSound ↔ s.VotesHold fun _ => True := by
  simp only [State.VotesSound, State.VotesHold, slotsInOrder_iff, true_imp_iff, and_assoc]

section
variable {settled : Fin 64 → Prop} {s t : State}

theorem State.VotesHold.of_votes (h : s.VotesHold settled) (ve : t.ve = s.ve) (cu : t.cu = s.cu)
    (stay : ∀ m, (s.laneState m).joined = true → (t.laneState m).joined = true) : t.VotesHold settled := by
  intro p
  obtain ⟨order, first, sound, closed⟩ := h p
  rw [State.voteOf_of_ve ve, State.cfgOf, cu]
  exact ⟨order, first, fun x hx => (sound x hx).mono fun m => by simpa using stay m, closed⟩

theorem State.VotesHold.of_lm (h : s.VotesHold settled) (ve : t.ve = s.ve) (cu : t.cu = s.cu) (lm : t.lm = s.lm) :
    t.VotesHold settled :=
  h.of_votes ve cu fun m joined => by rwa [State.laneState_of_lm lm]

theorem State.VotesHold.changeLane (h : s.VotesHold settled) (l : Lane) (new : LaneState) (cause : LaneCause) :
    (s.changeLane l new cause).VotesHold settled := by
  obtain ⟨base, -, ve⟩ := s.changeLane_spec l new cause
  have lanes := s.laneState_changeLane l new cause
  by_cases departs : ((s.laneState l).joined && !new.joined) = true
  · rw [if_pos departs] at ve
    have votes : ∀ p, (s.changeLane l new cause).voteOf p =
        { s.voteOf p with slots := voidSlots l (s.voteOf p).slots } := fun p =>
      (State.voteOf_of_ve (s := s.void l) ve p).trans (s.voteOf_void l p)
    intro p
    obtain ⟨order, first, sound, closed⟩ := h p
    rw [votes, base.cfgOf, base.cu]
    refine ⟨slotsSerial_void order, fun open' => firstOpen_void (first open'), fun y hy => ?_, fun shut => ?_⟩
    · have stay : ∀ m, m ≠ l → s.joined.get m = true → (s.changeLane l new cause).joined.get m = true := by
        intro m other joined
        rw [State.get_joined] at joined ⊢
        rwa [lanes, if_neg other]
      cases slots : (s.voteOf p).slots with
      | nil => rw [slots] at hy; cases hy
      | cons x rest =>
        rw [slots] at hy sound
        obtain rfl | hy := List.mem_cons.mp hy
        · exact (sound x List.mem_cons_self).without stay
        · obtain ⟨z, hz, rfl⟩ := List.mem_map.mp hy
          exact (sound z (List.mem_cons_of_mem _ hz)).withoutSuccessor stay
    · dsimp only
      rw [closed shut]
      rfl
  · rw [if_neg departs] at ve
    refine h.of_votes ve base.cu fun m joined => ?_
    rw [lanes]
    split
    next here =>
      rw [here] at joined
      simpa [joined] using departs
    next => exact joined

end

/-- Closings may cause nothing that upsets the order of the slots, or gives a point more of them. -/
theorem votesHold_keptByConsequences (settled : Fin 64 → Prop) (p : Fin 64) (k : Nat) :
    KeptByConsequences fun s => s.VotesHold settled ∧ (s.voteOf p).slots.length ≤ k := by
  intro s t c h
  cases c with
  | submit sub b =>
    exact ⟨h.1.of_lm (s.submit_ve sub b) (s.submit_cu sub b) (s.submit_lm sub b), by rw [State.submit_voteOf]; exact h.2⟩
  | notify => exact h
  | handOff => exact h
  | counts l e same =>
    exact ⟨h.1.of_votes rfl rfl fun m joined => by rwa [s.laneState_counts same], h.2⟩
  | move l e new cause may =>
    refine State.moved_keeps (Q := fun s => s.VotesHold settled ∧ (s.voteOf p).slots.length ≤ k)
      (fun u l new cause _ _ _ hu => ⟨hu.1.changeLane l new cause, ?_⟩) may
      ⟨h.1.of_votes rfl rfl fun m joined => by rwa [s.laneState_counts may.same], h.2⟩
    obtain ⟨-, -, ve⟩ := u.changeLane_spec l new cause
    split at ve
    · rw [State.voteOf_of_ve ve, State.voteOf_void, voidSlots_length]
      exact hu.2
    · rw [State.voteOf_of_ve ve]
      exact hu.2

/-! ### Closings -/

section
variable {s : State} {p : Fin 64}

/-- The vote of a point advanced past its first slot. -/
theorem State.VotesHold.advance (h : s.VotesHold (· ≠ p)) {x : Slot} {rest : List Slot}
    (slots : (s.voteOf p).slots = x :: rest) (last : Option LastClosing) :
    (s.putVote p ⟨(s.voteOf p).next + 1, rest, last⟩).VotesHold (· ≠ p) := by
  intro q
  rw [State.voteOf_putVote, State.putVote_cfgOf, State.putVote_joined, State.putVote_cu]
  split
  next here =>
    obtain ⟨order, -, sound, closed⟩ := h p
    rw [slots] at order sound closed
    rw [here]
    refine ⟨?_, fun other => absurd rfl other, fun y hy => sound y (List.mem_cons_of_mem _ hy), fun shut => ?_⟩
    · match rest, order with
      | [], _ => trivial
      | [y], ⟨_, second, _⟩ => exact second
    · cases closed shut
  next => exact h q

theorem slotsSerial_length {next : Serial} {xs : List Slot} (h : slotsSerial next xs) : xs.length ≤ 2 := by
  match xs, h with
  | [], _ => exact Nat.zero_le 2
  | [_], _ => exact Nat.le_succ 1
  | [_, _], _ => exact le_rfl

/-- Where the slot that has become the slot for N does not close at once it is OPEN (Table 2.6). -/
theorem firstOpen_of_not_due {xs : List Slot} (h : xs.head?.bind Slot.dueCause = none) : firstOpen xs := by
  intro x hx
  rw [Option.mem_def.mp hx, Option.bind_some] at h
  unfold Slot.dueCause at h
  split at h
  · cases h
  next opened => exact opened

theorem State.VotesHold.settle (h : s.VotesHold (· ≠ p)) (first : firstOpen (s.voteOf p).slots) : s.VotesSound := by
  rw [State.votesSound_iff]
  intro q
  obtain ⟨order, others, sound, closed⟩ := h q
  refine ⟨order, fun _ => ?_, sound, closed⟩
  by_cases here : q = p
  · exact here ▸ first
  · exact others here

/-- A closing with its continuation closes slots until the slot for N, if one is left, is OPEN (R30, R31). -/
theorem State.closeChain_votesSound (n : Nat) (cause : CloseCause) (h : s.VotesHold (· ≠ p))
    (enough : (s.voteOf p).slots.length ≤ n) : (s.closeChain n p cause).VotesSound := by
  induction n generalizing s cause with
  | zero =>
    have none := List.length_eq_zero_iff.mp (Nat.le_zero.mp enough)
    exact h.settle (by rw [none]; nofun)
  | succ n ih =>
    unfold State.closeChain
    split
    next none => exact h.settle (by rw [none]; nofun)
    next x rest slots =>
      dsimp only
      rw [slots, List.length_cons] at enough
      have closed : ∀ k, rest.length ≤ k → (s.closeSlot p x rest cause).VotesHold (· ≠ p) ∧
          ((s.closeSlot p x rest cause).voteOf p).slots.length ≤ k := fun k few =>
        (votesHold_keptByConsequences (· ≠ p) p k).closeSlot p x rest cause fun last =>
          ⟨h.advance slots last, by rw [State.voteOf_putVote_self]; exact few⟩
      obtain ⟨holds, few⟩ := closed n (Nat.le_of_succ_le_succ enough)
      split
      next c due => exact ih c holds few
      next due => exact holds.settle (firstOpen_of_not_due due)

theorem State.closePoint_votesSound (h : s.VotesSound) (cause : CloseCause) : (s.closePoint p cause).VotesSound := by
  refine State.closeChain_votesSound _ cause (fun q => ?_) le_rfl
  obtain ⟨order, first, sound, closed⟩ := State.votesSound_iff.mp h q
  exact ⟨order, fun _ => first trivial, sound, closed⟩

end

/-! ### The vote slots (R24, R27, R33) -/

theorem State.votesSound_of_empty {s : State} (h : ∀ p, (s.voteOf p).slots = []) : s.VotesSound := by
  intro p
  rw [h p]
  exact ⟨trivial, nofun, fun _ => rfl⟩

theorem votesSound_kept : Kept (fun _ => True) State.VotesSound := by
  refine ⟨fun s t change h => ?_, fun p cause s h => State.closePoint_votesSound h cause⟩
  have of_lm : ∀ t : State, t.ve = s.ve → t.cu = s.cu → t.lm = s.lm → t.VotesSound := fun t ve cu lm =>
    State.votesSound_iff.mpr ((State.votesSound_iff.mp h).of_lm ve cu lm)
  have cleared : ∀ t : State, t.ve = (tabulatePoints fun _ => clearedVote) → t.VotesSound := fun t ve =>
    State.votesSound_of_empty fun p => by rw [State.voteOf, ve, PerPoint.at_tabulate]; rfl
  cases change with
  | consequence c =>
    obtain ⟨kept, -⟩ := votesHold_keptByConsequences (fun _ => True) 0 _ s t c ⟨State.votesSound_iff.mp h, le_rfl⟩
    exact State.votesSound_iff.mpr kept
  | tick => exact h
  | links => exact h
  | sent => exact h
  | slots p xs here keeps =>
    intro q
    rw [State.putSlots, State.voteOf_putVote, State.putVote_cfgOf, State.putVote_joined, State.putVote_cu]
    split
    next same =>
      obtain ⟨order, sound, closed⟩ := h p
      obtain ⟨order', sound'⟩ := keeps ⟨order, sound⟩
      rw [same]
      refine ⟨order', sound', fun shut => ?_⟩
      obtain some | ⟨operate, enabled⟩ := here
      · exact absurd (closed shut) some
      · rw [operate, enabled] at shut
        obtain shut | shut := shut <;> cases shut
    next => exact h q
  | claim =>
    obtain ⟨base, -, lm, ve, -⟩ := s.changeHolder_spec _ _ _ _
    exact of_lm _ ve base.cu lm
  | queueClaim => exact h
  | yield =>
    obtain ⟨base, -, lm, ve, -⟩ := s.changeHolder_spec _ _ _ _
    exact of_lm _ ve base.cu lm
  | withdraw => exact h
  | drive => exact h
  | clear => exact h
  | vote => exact h
  | endVote => exact h
  | restart kind voters =>
    obtain ⟨-, ve, -⟩ := s.warmRestart_spec kind voters
    exact cleared _ ve
  | rearm => exact h
  | openSession _ _ closed =>
    obtain ⟨-, -, ve, -⟩ := State.reevaluate_spec _ none
    exact State.votesSound_of_empty fun p => by rw [State.voteOf_of_ve ve]; exact closed p
  | write => exact h
  | abort config =>
    obtain ⟨-, -, ve, -⟩ := State.reevaluate_spec _ none
    refine State.votesSound_of_empty fun p => ?_
    obtain ⟨-, -, closed⟩ := h p
    rw [State.voteOf_of_ve ve]
    exact closed (.inr config)
  | commit =>
    obtain ⟨-, ve, -⟩ := s.commit_spec
    exact cleared _ ve

/-- Settles O10: a departure voids votes without upsetting their order, and a closing ends with an OPEN slot for N. -/
theorem stepsKeepTheVotesSound : Obligations.StepsKeepTheVotesSound := fun _ _ =>
  votesSound_kept.step (fun _ _ h => h) powerOn_votesSound powerOn_votesSound

end Sys2Proof.Machine

/-! The invariant of the link units (R137, R175 to R179, R183): what each operation on a link makes of its unit. A request
that is being taken is the one place where a request waits although fewer than four replies are owed. -/

namespace Sys2Proof.Machine

/-- The frames that a link carries from the part (R137, R148, R181). -/
def TxFrame.Suits (l : Link) (f : TxFrame) : Prop := (f.isApply = true ↔ l = .dl) ∧ (l = .ml → f.isNotice = false)

/-- What holds of the unit of a link also while a request is being taken: all of its invariant but that a request waits
only while four replies are owed. -/
structure LinkUnit.Works (l : Link) (u : LinkUnit) : Prop where
  disabled : u.enabled = false → u.state = .off
  backoff : u.backoff.isSome = true ↔ u.state = .off ∧ u.enabled = true
  handshake : u.handshake.isSome = true ↔ u.state = .ready
  silence : u.silence.isSome = true ↔ u.state.up = true
  credit : u.credit ≤ 4
  still : u.state ≠ .run → u.credit = 0 ∧ u.sending = none
  buffers : u.state.up = true → u.peerCredit + u.waiting.length = 4
  down : u.state.up = false → u.peerCredit = 0 ∧ u.waiting = [] ∧ u.replies = []
  replies : u.replies.length ≤ 4
  discarded : u.discarded ≤ 255
  restarts : u.restarts ≤ 255
  oldest : ∀ r, u.sending = some (.reply r) → u.replies.head? = some r
  drive : l = .dl → u.waiting = [] ∧ u.replies = []
  suits : ∀ f, u.sending = some f → f.Suits l

/-- A request waits only while four replies are owed (R137, log 10). -/
def LinkUnit.Settled (u : LinkUnit) : Prop := u.waiting = [] ∨ u.replies.length = 4

theorem State.linksSound_iff {s : State} :
    s.LinksSound ↔ ∀ l, (s.link l).Works l ∧ (s.link l).Settled := by
  constructor
  · rintro ⟨sound, ⟨noWaiting, noReplies, applies⟩, maintenance, lanes⟩ l
    obtain ⟨disabled, backoff, handshake, silence, credit, still, buffers, down, replies, settled, discarded, restarts,
      oldest⟩ := sound l
    refine ⟨⟨disabled, backoff, handshake, silence, credit, still, buffers, down, replies, discarded, restarts, oldest, ?_,
      fun f sending => ?_⟩, settled⟩
    · rintro rfl
      exact ⟨noWaiting, noReplies⟩
    · have lane : ∀ n : Lane, l = n.link → f.Suits l := by
        rintro n rfl
        refine ⟨iff_of_false (by rw [lanes n f sending]; exact Bool.false_ne_true) (by cases n <;> nofun), ?_⟩
        cases n <;> nofun
      cases l with
      | la => exact lane .a rfl
      | lb => exact lane .b rfl
      | lc => exact lane .c rfl
      | dl => exact ⟨iff_of_true (applies f sending) rfl, nofun⟩
      | ml =>
        obtain ⟨noApply, noNotice⟩ := maintenance f sending
        exact ⟨iff_of_false (by rw [noApply]; exact Bool.false_ne_true) nofun, fun _ => noNotice⟩
  · intro h
    refine ⟨fun l => ?_, ?_, fun f sending => ?_, fun n f sending => ?_⟩
    · obtain ⟨works, settled⟩ := h l
      exact ⟨works.disabled, works.backoff, works.handshake, works.silence, works.credit, works.still, works.buffers,
        works.down, works.replies, settled, works.discarded, works.restarts, works.oldest⟩
    · obtain ⟨works, -⟩ := h .dl
      exact ⟨(works.drive rfl).1, (works.drive rfl).2, fun f sending => (works.suits f sending).1.mpr rfl⟩
    · obtain ⟨apply, notice⟩ := (h .ml).1.suits f sending
      exact ⟨Bool.eq_false_iff.mpr fun yes => (nomatch apply.mp yes), notice rfl⟩
    · obtain ⟨apply, -⟩ := (h n.link).1.suits f sending
      refine Bool.eq_false_iff.mpr fun yes => ?_
      have same := apply.mp yes
      cases n <;> cases same

section
variable {s t : State}

theorem State.LinksSound.of_lu (h : s.LinksSound) (lu : t.lu = s.lu) : t.LinksSound := by
  rw [State.linksSound_iff] at h ⊢
  intro l
  rw [show t.link l = s.link l from congrArg (PerLink.get · l) lu]
  exact h l

theorem State.LinksSound.putLink (h : s.LinksSound) (l : Link) {u : LinkUnit} (works : u.Works l) (settled : u.Settled) :
    (s.putLink l u).LinksSound := by
  rw [State.linksSound_iff] at h ⊢
  intro k
  rw [State.link_putLink]
  split
  next same => exact same ▸ ⟨works, settled⟩
  next => exact h k

end

/-! ### Link units -/

section
variable {l : Link} {u : LinkUnit}

theorem LinkUnit.Works.up_of_sending (h : u.Works l) {f : TxFrame} (sending : u.sending = some f) : u.state = .run := by
  by_contra not
  rw [(h.still not).2] at sending
  cases sending

theorem LinkUnit.fallen_works (l : Link) (now : Time) (discarded : u.discarded ≤ 255) (restarts : u.restarts ≤ 255) :
    (u.fallen now).Works l where
  disabled _ := rfl
  backoff := by cases enabled : u.enabled <;> simp [LinkUnit.fallen, enabled]
  handshake := by simp [LinkUnit.fallen]
  silence := by simp [LinkUnit.fallen, LinkState.up]
  credit := Nat.zero_le 4
  still _ := ⟨rfl, rfl⟩
  buffers up := nomatch up
  down _ := ⟨rfl, rfl, rfl⟩
  replies := Nat.zero_le 4
  discarded := discarded
  restarts := by
    unfold LinkUnit.fallen
    dsimp only
    split <;> omega
  oldest _ same := absurd same nofun
  drive _ := ⟨rfl, rfl⟩
  suits _ same := absurd same nofun

theorem LinkUnit.Works.heard (h : u.Works l) (up : u.state.up = true) (now : Time) : (u.heard now).Works l :=
  { h with silence := iff_of_true rfl up }

theorem LinkUnit.Works.countsCleared (h : u.Works l) : u.countsCleared.Works l :=
  { h with discarded := Nat.zero_le 255, restarts := Nat.zero_le 255 }

theorem LinkUnit.Works.countDiscard (h : u.Works l) : ({ u with discarded := satInc 255 u.discarded } : LinkUnit).Works l :=
  { h with discarded := satInc_le 255 _ }

/-- The request received is stored in a free buffer. -/
theorem LinkUnit.Works.buffer (h : u.Works l) (up : u.state.up = true) (room : u.waiting.length < 4) (notDrive : l ≠ .dl)
    (r : Request) :
    ({ u with waiting := u.waiting ++ [r], peerCredit := u.peerCredit - 1 } : LinkUnit).Works l :=
  { h with
    buffers := fun _ => by
      have four := h.buffers up
      simp only [List.length_append, List.length_singleton]
      omega
    down := fun down => absurd (up.symm.trans down) nofun
    drive := fun drive => absurd drive notDrive }

/-- The reply of a request taken joins the queue and its buffer is granted back. -/
theorem LinkUnit.Works.answer (h : u.Works l) (up : u.state.up = true) {r : Request} {rest : List Request}
    (waiting : u.waiting = r :: rest) (room : u.replies.length < 4) (notDrive : l ≠ .dl) (x : Reply) :
    ({ u with waiting := u.waiting.tail, peerCredit := u.peerCredit + 1, replies := u.replies ++ [x] } : LinkUnit).Works
      l :=
  { h with
    buffers := fun _ => by
      have four := h.buffers up
      rw [waiting] at four
      simp only [waiting, List.tail_cons, List.length_cons] at four ⊢
      omega
    down := fun down => absurd (up.symm.trans down) nofun
    replies := by
      simp only [List.length_append, List.length_singleton]
      omega
    oldest := fun y sending => by
      have head := h.oldest y sending
      cases queue : u.replies with
      | nil => rw [queue] at head; cases head
      | cons first others => rw [queue] at head; exact head
    drive := fun drive => absurd drive notDrive }

/-- The END of the frame in progress sent. -/
theorem LinkUnit.Works.endFrame (h : u.Works l) : ({ u with sending := none } : LinkUnit).Works l :=
  { h with still := fun not => ⟨(h.still not).1, rfl⟩, oldest := fun _ same => absurd same nofun, suits := fun _ same => absurd same nofun }

theorem LinkUnit.Works.endReply (h : u.Works l) :
    ({ u with sending := none, replies := u.replies.tail } : LinkUnit).Works l :=
  { h with
    still := fun not => ⟨(h.still not).1, rfl⟩
    down := fun down => ⟨(h.down down).1, (h.down down).2.1, by
      dsimp only
      rw [(h.down down).2.2]
      rfl⟩
    replies := (u.replies.length_tail).trans_le ((Nat.sub_le _ 1).trans h.replies)
    oldest _ same := absurd same nofun
    drive := fun drive => ⟨(h.drive drive).1, by
      dsimp only
      rw [(h.drive drive).2]
      rfl⟩
    suits := fun _ same => absurd same nofun }

/-- A frame started on a link that may start one. -/
theorem LinkUnit.Works.start (h : u.Works l) (may : u.mayStart = true) {f : TxFrame} (suits : f.Suits l)
    (oldest : ∀ r, f = .reply r → u.replies.head? = some r) :
    ({ u with credit := u.credit - 1, sending := some f } : LinkUnit).Works l := by
  obtain ⟨run, -, -⟩ := u.mayStart_iff.mp may
  exact
    { h with
      credit := (Nat.sub_le _ 1).trans h.credit
      still := fun not => absurd run not
      oldest := fun r same => oldest r (Option.some.inj same)
      suits := fun g same => Option.some.inj same ▸ suits }

end

/-! ### Requests taken -/

theorem requestLink_ne_drive (link : ReqLink) : link.link ≠ .dl := by
  cases link with
  | lane l => cases l <;> nofun
  | ml => nofun

theorem requestLink_eq_some {l : Link} {link : ReqLink} (h : requestLink l = some link) : link.link = l := by
  cases l <;> simp only [requestLink, Option.some.injEq, reduceCtorEq] at h <;> exact h ▸ rfl

/-- Every other link keeps its invariant and the link that takes requests works on. -/
def State.LinksTaking (link : Link) (s : State) : Prop :=
  (s.link link).Works link ∧ ∀ l, l ≠ link → (s.link l).Works l ∧ (s.link l).Settled

section
variable {s : State}

theorem State.LinksTaking.putLink {l : Link} {t : State} (h : t.LinksTaking l) {u : LinkUnit} (works : u.Works l) :
    (t.putLink l u).LinksTaking l := by
  refine ⟨by rw [State.link_putLink_self]; exact works, fun k other => ?_⟩
  rw [State.link_putLink, if_neg other]
  exact h.2 k other

theorem State.LinksTaking.of_sound (h : s.LinksSound) (l : Link) : s.LinksTaking l :=
  ⟨(State.linksSound_iff.mp h l).1, fun k _ => State.linksSound_iff.mp h k⟩

theorem State.LinksTaking.settle {l : Link} (h : s.LinksTaking l) (settled : (s.link l).Settled) : s.LinksSound := by
  refine State.linksSound_iff.mpr fun k => ?_
  by_cases here : k = l
  · exact here ▸ ⟨h.1, settled⟩
  · exact h.2 k here

theorem State.LinksTaking.serve {l : Link} (h : s.LinksTaking l) (link : ReqLink) (r : Request) :
    (serve link r s).state.LinksTaking l := by
  have works : ∀ k, (s.link k).Works k → ((Machine.serve link r s).state.link k).Works k := by
    intro k hk
    obtain same | cleared := serve_link link r s k
    · rw [same]; exact hk
    · rw [cleared]; exact hk.countsCleared
  refine ⟨works l h.1, fun k other => ⟨works k (h.2 k other).1, ?_⟩⟩
  obtain same | cleared := serve_link link r s k
  · rw [same]; exact (h.2 k other).2
  · rw [cleared]; exact (h.2 k other).2

/-- Requests are taken until none waits or four replies are owed. -/
theorem State.takeWaiting_linksSound (n : Nat) (link : ReqLink) (h : s.LinksTaking link.link)
    (enough : (s.link link.link).waiting.length ≤ n) : (s.takeWaiting n link).LinksSound := by
  induction n generalizing s with
  | zero => exact h.settle (.inl (List.length_eq_zero_iff.mp (Nat.le_zero.mp enough)))
  | succ n ih =>
    unfold State.takeWaiting
    split
    next none => exact h.settle (.inl none)
    next r rest waiting =>
    have up : (s.link link.link).state.up = true := by
      by_contra not
      rw [Bool.not_eq_true] at not
      cases waiting.symm.trans (h.1.down not).2.1
    split
    next room =>
      have served := h.serve link r
      have replies : ((serve link r s).state.link link.link).replies = (s.link link.link).replies ∧
          ((serve link r s).state.link link.link).state = (s.link link.link).state := by
        obtain same | cleared := serve_link link r s link.link
        · rw [same]; exact ⟨rfl, rfl⟩
        · rw [cleared]; exact ⟨rfl, rfl⟩
      have waits := (serve_waiting link r s link.link).trans waiting
      refine ih (served.putLink (served.1.answer (by rw [replies.2]; exact up) waits (by rw [replies.1]; exact room)
        (requestLink_ne_drive link) _)) ?_
      rw [State.queueReply, State.link_putLink_self]
      dsimp only
      rw [waits]
      rw [waiting] at enough
      exact Nat.le_of_succ_le_succ enough
    next full => exact h.settle (.inr (Nat.le_antisymm h.1.replies (Nat.not_lt.mp full)))

/-! ### The operations on links -/

theorem State.LinksSound.linkDown (h : s.LinksSound) (l : Link) (cause : LinkCause) : (s.linkDown l cause).LinksSound := by
  by_cases up : (s.link l).state.up = true
  · obtain ⟨works, -⟩ := State.linksSound_iff.mp h l
    exact State.LinksSound.of_lu (h.putLink l (LinkUnit.fallen_works l s.time works.discarded works.restarts) (.inl rfl))
      (s.linkDown_spec cause up).lu
  · rw [s.linkDown_of_not_up cause ((Bool.not_eq_true _).mp up)]
    exact h

theorem State.LinksSound.withFrame (h : s.LinksSound) (l : Link) (f : State → State)
    (inner : (s.link l).state.up = true → (s.link l).waiting.length < 4 → (s.frameHeard l).LinksSound →
      (f (s.frameHeard l)).LinksSound) : (s.withFrame l f).LinksSound := by
  by_cases up : (s.link l).state.up = true
  · rcases Nat.lt_or_ge (s.link l).waiting.length 4 with room | full
    · rw [s.withFrame_of_room f up room]
      obtain ⟨works, settled⟩ := State.linksSound_iff.mp h l
      exact inner up room (h.putLink l (works.heard up s.time) settled)
    · rw [s.withFrame_of_full f up full]
      exact h.linkDown l _
  · rw [s.withFrame_of_not_up f ((Bool.not_eq_true _).mp up)]
    exact h

theorem State.LinksSound.receive (h : s.LinksSound) (link : ReqLink) (r : Request) : (s.receive link r).LinksSound := by
  refine h.withFrame link.link _ fun up room heard => ?_
  have own : (s.frameHeard link.link).link link.link = (s.link link.link).heard s.time := State.link_putLink_self _ _ _
  have works := (State.linksSound_iff.mp heard link.link).1
  refine State.takeWaiting_linksSound _ link ((State.LinksTaking.of_sound heard _).putLink ?_) le_rfl
  exact works.buffer (by rw [own]; exact up) (by rw [own]; exact room) (requestLink_ne_drive link) r

theorem State.LinksSound.countDiscard (h : s.LinksSound) (l : Link) : (s.countDiscard l).LinksSound := by
  obtain ⟨works, settled⟩ := State.linksSound_iff.mp h l
  exact h.putLink l works.countDiscard settled

theorem State.LinksSound.grantReceived (h : s.LinksSound) (l : Link) : (s.grantReceived l).LinksSound := by
  obtain ⟨works, settled⟩ := State.linksSound_iff.mp h l
  unfold State.grantReceived
  dsimp only
  split
  · exact h
  · exact h
  next ready =>
    refine h.putLink l { works with
      disabled := fun off => ?_, backoff := ?_, handshake := iff_of_false nofun nofun, silence := iff_of_true rfl rfl,
      credit := by exact Nat.one_le_ofNat, still := fun not => absurd rfl not,
      buffers := fun _ => works.buffers (by rw [ready]; rfl), down := nofun } settled
    · cases ready.symm.trans (works.disabled off)
    · refine iff_of_false (fun some => ?_) nofun
      cases ready.symm.trans (works.backoff.mp some).1
  next run =>
    split
    · exact h.linkDown l _
    next below =>
      have up : (s.link l).state.up = true := by rw [run]; rfl
      exact h.putLink l { works.heard up s.time with
        credit := Nat.not_le.mp below, still := fun not => absurd run not } settled

theorem State.LinksSound.idleReceived (h : s.LinksSound) (l : Link) : (s.idleReceived l).LinksSound := by
  obtain ⟨works, settled⟩ := State.linksSound_iff.mp h l
  have heard : (s.link l).state.up = true → (s.putLink l ((s.link l).heard s.time)).LinksSound := fun up =>
    h.putLink l (works.heard up s.time) settled
  unfold State.idleReceived
  dsimp only
  split
  · exact h
  next waking =>
    obtain ⟨-, noWaiting, noReplies⟩ := works.down (by rw [waking]; rfl)
    refine h.putLink l { works with
      disabled := fun off => ?_, backoff := ?_, handshake := iff_of_true rfl rfl, silence := iff_of_true rfl rfl,
      still := fun _ => works.still (by rw [waking]; nofun), buffers := fun _ => ?_, down := nofun } settled
    · cases waking.symm.trans (works.disabled off)
    · refine iff_of_false (fun some => ?_) nofun
      cases waking.symm.trans (works.backoff.mp some).1
    · simp [LinkUnit.freeBuffers, LinkUnit.heard, noWaiting, Config.bufferCount]
  next ready => exact heard (by rw [ready]; rfl)
  next run => exact heard (by rw [run]; rfl)

theorem State.LinksSound.expireBackoff (h : s.LinksSound) (l : Link) : (s.expireBackoff l).LinksSound := by
  obtain ⟨works, settled⟩ := State.linksSound_iff.mp h l
  unfold State.expireBackoff
  dsimp only
  split
  next due =>
    obtain ⟨off, enabled, -⟩ := due
    have stopped : (s.link l).handshake.isSome = false ∧ (s.link l).silence.isSome = false := by
      constructor
      · refine Bool.eq_false_iff.mpr fun some => ?_
        cases off.symm.trans (works.handshake.mp some)
      · refine Bool.eq_false_iff.mpr fun some => ?_
        have up := works.silence.mp some
        rw [off] at up
        cases up
    exact h.putLink l { works with
      disabled := fun disabled => absurd (enabled.symm.trans disabled) nofun, backoff := iff_of_false nofun nofun,
      handshake := iff_of_false (by rw [stopped.1]; nofun) nofun,
      silence := iff_of_false (by rw [stopped.2]; nofun) nofun,
      still := fun _ => works.still (by rw [off]; nofun), buffers := nofun,
      down := fun _ => works.down (by rw [off]; rfl) } settled
  next => exact h

theorem State.LinksSound.enableLink (h : s.LinksSound) (n : Lane) : (s.enableLink n).LinksSound := by
  obtain ⟨works, settled⟩ := State.linksSound_iff.mp h n.link
  unfold State.enableLink
  dsimp only
  split
  next due =>
    have off := works.disabled due.2
    rw [if_pos off]
    exact h.putLink n.link { works with disabled := nofun, backoff := iff_of_true rfl ⟨off, rfl⟩ } settled
  next => exact h

theorem State.LinksSound.disableLink (h : s.LinksSound) (n : Lane) : (s.disableLink n).LinksSound := by
  obtain ⟨works, -⟩ := State.linksSound_iff.mp h n.link
  unfold State.disableLink
  dsimp only
  split
  next =>
    split
    next up =>
      have again : ((s.putLink n.link { s.link n.link with enabled := false }).link n.link).state.up = true := by
        rw [State.link_putLink_self]; exact up
      refine State.LinksSound.of_lu ?_ (State.linkDown_spec _ .disabled again).lu
      rw [State.link_putLink_self, State.putLink_putLink]
      exact h.putLink n.link (LinkUnit.fallen_works _ _ works.discarded works.restarts) (.inl rfl)
    next =>
      rw [LinkUnit.toOff_eq_fallen]
      exact h.putLink n.link (LinkUnit.fallen_works _ _ works.discarded works.restarts) (.inl rfl)
  next => exact h

theorem State.LinksSound.startReply (h : s.LinksSound) (link : ReqLink) : (s.startReply link.link).LinksSound := by
  obtain ⟨works, settled⟩ := State.linksSound_iff.mp h link.link
  unfold State.startReply
  dsimp only
  split
  · exact h
  next r rest queue =>
    split
    next may =>
      refine h.putLink link.link (works.start may ⟨iff_of_false nofun (requestLink_ne_drive link), fun _ => rfl⟩ ?_) settled
      rintro _ ⟨⟩
      rw [queue]
      rfl
    next => exact h

theorem State.LinksSound.startNotice (h : s.LinksSound) (n : Lane) : (s.startNotice n).LinksSound := by
  obtain ⟨works, settled⟩ := State.linksSound_iff.mp h n.link
  unfold State.startNotice
  dsimp only
  split
  · exact h
  next x rest queue =>
    split
    next may =>
      refine State.LinksSound.of_lu (h.putLink n.link (works.start may.1
        (f := .notice (s.nu.get n).seq (s.nu.get n).lost x) ⟨iff_of_false nofun ?_, ?_⟩ ?_) settled) rfl
      · cases n <;> nofun
      · cases n <;> nofun
      · exact fun _ same => absurd same nofun
    next => exact h

theorem State.LinksSound.endFrame (h : s.LinksSound) (l : Link) : (s.endFrame l).LinksSound := by
  obtain ⟨works, settled⟩ := State.linksSound_iff.mp h l
  unfold State.endFrame
  dsimp only
  split
  · exact h
  next r sending =>
    have taking := (State.LinksTaking.of_sound h l).putLink works.endReply
    split
    next link here =>
      have same : link.link = l := requestLink_eq_some here
      exact State.takeWaiting_linksSound _ link (same ▸ taking) le_rfl
    next none =>
      have drive : l = .dl := by
        cases l with
        | dl => rfl
        | _ => cases none
      exact taking.settle (.inl (by rw [State.link_putLink_self]; exact (works.drive drive).1))
  next => exact h.putLink l works.endFrame settled

theorem State.LinksSound.dispatchHead (h : s.LinksSound) : s.dispatchHead.LinksSound := by
  obtain ⟨works, settled⟩ := State.linksSound_iff.mp h .dl
  unfold State.dispatchHead
  split
  · exact h
  next p rest head =>
    split
    next may =>
      obtain ⟨-, start, -⟩ := s.mayDispatch_iff.mp may
      exact State.LinksSound.of_lu
        (h.putLink .dl (works.start start (f := .apply p s.du.nextTag (s.driveOf p).target)
          ⟨iff_of_true rfl rfl, fun same => absurd same nofun⟩
          fun _ same => absurd same nofun) settled) rfl
    next => exact h

end

/-! ### Every command -/

section
variable (s : State)

theorem State.expireBeat_base (n : Lane) : s.SameBase (s.expireBeat n) := by
  unfold State.expireBeat
  split
  · exact s.depart_base n _
  · exact State.SameBase.refl s

theorem State.expireHold_base (n : Lane) : s.SameBase (s.expireHold n) := by
  unfold State.expireHold
  split
  · exact s.moveLane_base n _ _
  · exact State.SameBase.refl s

theorem State.expireCollection_base : s.SameBase s.expireCollection := by
  unfold State.expireCollection
  split
  · exact State.SameBase.refl s
  · split
    · exact ⟨rfl, rfl, rfl, rfl, rfl, rfl⟩
    · exact State.SameBase.refl s

end

theorem State.LinksSound.exec {c : Instr} {s t : State} (notAssert : c ≠ .resetAssert)
    (notRelease : ∀ f, c ≠ .resetRelease f) (h : s.LinksSound) (next : exec c s = .next t) : t.LinksSound := by
  have powered : ∀ {f : State → State}, Machine.exec c s = s.whenPowered f → (f s).LinksSound → t.LinksSound := by
    intro f run inner
    obtain rfl | rfl := State.of_whenPowered (run.symm.trans next)
    · exact inner
    · exact h
  have based : ∀ {f : State → State}, Machine.exec c s = s.whenPowered f → s.SameBase (f s) → t.LinksSound :=
    fun run base => powered run (h.of_lu base.lu)
  cases request : c.request? with
  | some found =>
    obtain ⟨link, r⟩ := found
    exact powered (exec_of_request s request) (h.receive link r)
  | none =>
    cases c with
    | badKind l kind tag payload =>
      refine powered (show Machine.exec _ s = execBadKind l kind tag payload s from rfl) ?_
      split
      · exact h
      next unknown => rw [Instr.request?, unknown] at request; cases request
    | echo tag payload =>
      refine powered (show Machine.exec _ s = execEcho tag payload s from rfl)
        (h.withFrame .dl _ fun _ _ heard => ?_)
      split
      · exact heard.of_lu (State.takeEcho_base _ _ _ _ _).lu
      · exact heard.countDiscard .dl
    | dispatch => exact powered rfl h.dispatchHead
    | echoDeadline p tag =>
      refine based (show Machine.exec _ s = execEchoDeadline p tag s from rfl) ?_
      split
      · split
        · exact s.failApply_base _ _ _
        · exact State.SameBase.refl s
      · exact State.SameBase.refl s
    | windowExpiry p n => exact based rfl (s.expireWindow_base p n)
    | departureClosing p => exact based rfl (s.closeDeparted_base p)
    | beatTimeout n => exact based rfl (s.expireBeat_base n)
    | holdExpiry n => exact based rfl (s.expireHold_base n)
    | collectionDeadline => exact based rfl s.expireCollection_base
    | backoffExpiry l => exact powered rfl (h.expireBackoff l)
    | handshakeExpiry l =>
      refine powered (show Machine.exec _ s = execHandshakeExpiry l s from rfl) ?_
      unfold State.expireHandshake
      split
      · exact h.linkDown l _
      · exact h
    | silenceTimeout l =>
      refine powered (show Machine.exec _ s = execSilenceTimeout l s from rfl) ?_
      unfold State.expireSilence
      split
      · exact h.linkDown l _
      · exact h
    | codeError l => exact powered rfl (h.linkDown l _)
    | framingError l how =>
      refine powered (show Machine.exec _ s = execFramingError l how s from rfl) ?_
      cases how with
      | characterOutsideFrame => exact h.linkDown l _
      | startInsideFrame => exact h.withFrame l _ fun _ _ heard => heard.linkDown l _
      | frameTooLong => exact h.withFrame l _ fun _ _ heard => heard.linkDown l _
    | grant l => exact powered rfl (h.grantReceived l)
    | idleReceived l => exact powered rfl (h.idleReceived l)
    | abandon l => exact powered rfl (h.withFrame l _ fun _ _ heard => heard)
    | discardedFrame l data =>
      refine powered (show Machine.exec _ s = execDiscardedFrame l data s from rfl) ?_
      split
      · exact h.withFrame l _ fun _ _ heard => heard.countDiscard l
      · exact h
    | linkEnable n => exact powered rfl (h.enableLink n)
    | linkDisable n => exact powered rfl (h.disableLink n)
    | sendReply link => exact powered rfl (h.startReply link)
    | sendNotice n => exact powered rfl (h.startNotice n)
    | frameSent l => exact powered rfl (h.endFrame l)
    | resetAssert => exact absurd rfl notAssert
    | resetRelease f => exact absurd rfl (notRelease f)
    | timeUnitTick => exact powered (f := fun u => { u with time := u.time + 1 }) rfl (h.of_lu rfl)
    | startNoFreeBuffer l =>
      refine powered (show Machine.exec _ s = execStartNoFreeBuffer l s from rfl) ?_
      split
      · exact h.linkDown l _
      · exact h
    | _ => cases request

/-- Settles O9: each operation on a link keeps its unit sound, and requests are taken until none waits or four replies are
owed. -/
theorem stepsKeepTheLinksSound : Obligations.StepsKeepTheLinksSound := by
  intro s t h next
  unfold step at next
  split at next
  · cases next
    exact h
  next c rest _ =>
    have taken : ({ s with pending := rest } : State).LinksSound := h
    by_cases assert : c = .resetAssert
    · subst assert
      cases next
      split
      · exact held_linksSound _ _
      · exact taken
    by_cases release : ∃ f, c = .resetRelease f
    · obtain ⟨f, rfl⟩ := release
      cases next
      split
      · exact powerOn_linksSound _ _
      · exact taken
    · exact taken.exec assert (not_exists.mp release) next

end Sys2Proof.Machine

/-! A request's service reads no link unit but for the state of the link that a JOIN came over; so a request taken at once
is its service on the state before its frame, followed by its reply (R136, R137). -/

namespace Sys2Proof.Machine

variable (s : State) (k : Link) (u : LinkUnit)

/-! ### What a request's owner does, with a link unit replaced -/

@[simp] theorem State.putLink_restartLane (l : Lane) :
    (s.putLink k u).restartLane l = (s.restartLane l).putLink k u := by
  rw [State.restartLane_eq, State.restartLane_eq, State.putLink_laneState, State.putLink_lane, State.putLink_putLane,
    State.putLink_emptyNotices, State.putLink_submit]
  split <;> rfl

@[simp] theorem State.putLink_clearAuthority : (s.putLink k u).clearAuthority = s.clearAuthority.putLink k u := by
  unfold State.clearAuthority
  rw [State.putLink_au]
  split
  · rfl
  · exact State.putLink_submit { s with au := s.au.change none [] } k u _ _

@[simp] theorem State.putLink_restartSafe : (s.putLink k u).restartSafe = s.restartSafe.putLink k u := by
  unfold State.restartSafe
  dsimp only
  rw [State.putLink_setSafe, State.putLink_handSafeValues, State.putLink_submit, State.putLink_sc]
  split <;> rfl

@[simp] theorem State.putLink_warmRestart (kind : RestartKind) (voters : LaneSet) :
    (s.putLink k u).warmRestart kind voters = (s.warmRestart kind voters).putLink k u := by
  have begun : (s.putLink k u).restartBegun kind voters = (s.restartBegun kind voters).putLink k u := by
    unfold State.restartBegun
    rw [State.putLink_submit]
    rfl
  simp only [State.warmRestart_eq, begun, State.restartLanes, State.putLink_restartLane, State.putLink_clearAuthority,
    State.putLink_restartSafe]

@[simp] theorem State.putLink_commitLane (l : Lane) :
    (s.putLink k u).commitLane l = (s.commitLane l).putLink k u := by
  rw [State.commitLane_eq, State.commitLane_eq, State.putLink_laneState, State.putLink_lane, State.putLink_global,
    State.putLink_putLane]
  split
  · rfl
  · rw [State.putLink_emptyNotices, State.putLink_submit]

@[simp] theorem State.putLink_commit : (s.putLink k u).commit = s.commit.putLink k u := by
  have begun : (s.putLink k u).imageCommitted.reinitPoints = s.imageCommitted.reinitPoints.putLink k u := rfl
  simp only [State.commit_eq, State.commitRecorded, begun, State.commitLanes, State.putLink_commitLane,
    State.putLink_submit, State.putLink_reevaluate, State.putLink_cu]

@[simp] theorem State.putLink_clearPoint (p : Fin 64) (sub : Option Lane) :
    (s.putLink k u).clearPoint p sub = (s.clearPoint p sub).putLink k u :=
  State.putLink_submit (({ s with du := s.du.clear s.global.echoRetries p } : State).notify _ _) k u _ _

@[simp] theorem State.putLink_rearm (sub : Option Lane) : (s.putLink k u).rearm sub = (s.rearm sub).putLink k u :=
  State.putLink_submit ({ s with ij := s.ij.rearmed } : State) k u _ _

@[simp] theorem State.putLink_takeBeat (l : Lane) (h : Health) :
    (s.putLink k u).takeBeat l h = (s.takeBeat l h).putLink k u := by
  cases h with
  | ok =>
    unfold State.takeBeat
    dsimp only
    rw [State.putLink_laneState]
    split <;> rfl
  | degraded => exact s.putLink_depart k u l _

/-- An answer with a link unit of its state replaced. -/
def Answer.withLink (k : Link) (u : LinkUnit) (a : Answer) : Answer := { a with state := a.state.putLink k u }

theorem serveJoin_putLink (l : Lane) (payload : List Byte)
    (same : ((s.putLink k u).link l.link).state = (s.link l.link).state) :
    serveJoin l payload (s.putLink k u) = (serveJoin l payload s).withLink k u := by
  have put : ∀ (e : LaneEntry) (new : LaneState) (cause : LaneCause),
      ((s.putLink k u).putLane l e).moveLane l new cause = ((s.putLane l e).moveLane l new cause).putLink k u :=
    fun e => State.putLink_moveLane (s.putLane l e) k u l
  simp only [serveJoin, State.putLink_lane, State.putLink_cu, State.acceptJoin, same, State.putLink_memberCount, put]
  cases readDigest payload with
  | none => rfl
  | some digest =>
    cases (s.lane l).state with
    | down => dsimp only; split_ifs <;> rfl
    | _ => dsimp only; split_ifs <;> rfl

theorem serveClaim_putLink (l : Lane) (payload : List Byte) :
    serveClaim l payload (s.putLink k u) = (serveClaim l payload s).withLink k u := by
  simp only [serveClaim, State.putLink_laneState, State.putLink_cu, State.putLink_au, State.putLink_changeHolder]
  cases readNothing payload with
  | none => rfl
  | some _ =>
    cases s.au.holder with
    | none => dsimp only; split_ifs <;> rfl
    | some h =>
      dsimp only
      by_cases claimed : l ∈ s.au.claims
      · simp only [claimed, if_true]
        split_ifs <;> rfl
      · simp only [claimed, if_false]
        split_ifs <;> rfl

theorem serveRestart_putLink (l : Lane) (payload : List Byte) :
    serveRestart l payload (s.putLink k u) = (serveRestart l payload s).withLink k u := by
  have voted : ∀ (c : Collection) (voters : LaneSet),
      ({ s.putLink k u with sc := { s.sc with collection := some c } } : State).warmRestart .laneVoted voters =
        (({ s with sc := { s.sc with collection := some c } } : State).warmRestart .laneVoted voters).putLink k u :=
    fun c => State.putLink_warmRestart { s with sc := { s.sc with collection := some c } } k u .laneVoted
  have collected : (s.putLink k u).collectionWith l = s.collectionWith l := rfl
  simp only [serveRestart, State.putLink_laneState, State.putLink_cu, State.putLink_sc, collected]
  cases readNothing payload with
  | none => rfl
  | some _ =>
    cases s.sc.collection.filter (fun c => c.voters.get l) with
    | some c => dsimp only; split_ifs <;> rfl
    | none =>
      dsimp only
      rw [State.putLink_global]
      split_ifs
      · rfl
      · rfl
      · exact congrArg (Answer.mk · .restarted .nothing) (voted _ _)
      · rfl

theorem servePointRead_putLink (payload : List Byte) :
    servePointRead payload (s.putLink k u) = (servePointRead payload s).withLink k u := by
  unfold servePointRead
  split
  · rfl
  · split <;> rfl

theorem servePointClear_putLink (link : ReqLink) (payload : List Byte) :
    servePointClear link payload (s.putLink k u) = (servePointClear link payload s).withLink k u := by
  have refusal : ∀ epoch, (s.putLink k u).authorityRefusal link epoch = s.authorityRefusal link epoch := fun _ => rfl
  simp only [servePointClear, refusal, State.putLink_driveOf, State.putLink_clearPoint]
  split
  · rfl
  next b epoch _ =>
    cases s.authorityRefusal link epoch with
    | some r => rfl
    | none =>
      cases pointOf b with
      | none => rfl
      | some p => dsimp only; split_ifs <;> rfl

theorem serveJournalRead_putLink (link : ReqLink) (payload : List Byte) :
    serveJournalRead link payload (s.putLink k u) = (serveJournalRead link payload s).withLink k u := by
  have refusal : (s.putLink k u).readRefusal link = s.readRefusal link := rfl
  simp only [serveJournalRead, refusal]
  cases readStart payload with
  | none => rfl
  | some start =>
    dsimp only
    cases s.readRefusal link <;> rfl

theorem serveJournalRearm_putLink (link : ReqLink) (payload : List Byte) :
    serveJournalRearm link payload (s.putLink k u) = (serveJournalRearm link payload s).withLink k u := by
  have refusal : ∀ epoch, (s.putLink k u).authorityRefusal link epoch = s.authorityRefusal link epoch := fun _ => rfl
  simp only [serveJournalRearm, refusal, State.putLink_ij, State.putLink_rearm]
  cases readEpoch payload with
  | none => rfl
  | some epoch =>
    dsimp only
    cases s.authorityRefusal link epoch with
    | some r => rfl
    | none => dsimp only; split_ifs <;> rfl

theorem State.putLink_session (cu : ConfigUnit) :
    ({ s.putLink k u with cu := cu } : State).reevaluate none =
      (({ s with cu := cu } : State).reevaluate none).putLink k u :=
  State.putLink_reevaluate { s with cu := cu } k u none

theorem serveCfgOpen_putLink (payload : List Byte) :
    serveCfgOpen payload (s.putLink k u) = (serveCfgOpen payload s).withLink k u := by
  have open' : (s.putLink k u).slotOpen = s.slotOpen := rfl
  simp only [serveCfgOpen, State.putLink_session, State.putLink_cu, State.putLink_joined, open']
  cases readNothing payload with
  | none => rfl
  | some _ =>
    cases s.cu.mode with
    | config => rfl
    | operate => dsimp only; split_ifs <;> rfl

theorem serveCfgWrite_putLink (payload : List Byte) :
    serveCfgWrite payload (s.putLink k u) = (serveCfgWrite payload s).withLink k u := by
  unfold serveCfgWrite
  rw [State.putLink_cu]
  split
  · rfl
  next target record _ =>
    by_cases operate : s.cu.mode = .operate
    · rw [if_pos operate, if_pos operate]
      rfl
    · rw [if_neg operate, if_neg operate]
      cases target with
      | global => dsimp only; split <;> rfl
      | point b =>
        dsimp only
        split
        · rfl
        · split <;> rfl

theorem serveCfgRead_putLink (payload : List Byte) :
    serveCfgRead payload (s.putLink k u) = (serveCfgRead payload s).withLink k u := by
  unfold serveCfgRead
  split
  · rfl
  · rfl
  · split <;> rfl

theorem serveCfgCommit_putLink (payload : List Byte) :
    serveCfgCommit payload (s.putLink k u) = (serveCfgCommit payload s).withLink k u := by
  simp only [serveCfgCommit, State.putLink_cu, State.putLink_commit]
  cases readNothing payload with
  | none => rfl
  | some _ =>
    by_cases operate : s.cu.mode = .operate
    · simp only [operate, if_true]
      rfl
    · simp only [operate, if_false]
      split <;> rfl

theorem serveCfgAbort_putLink (payload : List Byte) :
    serveCfgAbort payload (s.putLink k u) = (serveCfgAbort payload s).withLink k u := by
  simp only [serveCfgAbort, State.putLink_session, State.putLink_cu]
  cases readNothing payload with
  | none => rfl
  | some _ => dsimp only; split_ifs <;> rfl

/-- A request other than STATUS acts on the state with a link unit replaced as on the state itself, where the link's state
is the same. -/
theorem serveKind_putLink (kind : ReqKind) (link : ReqLink) (payload : List Byte) (notStatus : kind ≠ .status)
    (same : u.state = (s.link k).state) :
    serveKind kind link payload (s.putLink k u) = (serveKind kind link payload s).withLink k u := by
  cases link with
  | lane l =>
    cases kind with
    | propose =>
      simp only [serveKind, servePropose, State.putLink_proposeEntries, State.putLink_laneState, State.putLink_cu]
      cases readPropose payload with
      | none => rfl
      | some es => dsimp only; split_ifs <;> rfl
    | join =>
      refine serveJoin_putLink s k u l payload ?_
      rw [State.link_putLink]
      split
      next here => rw [same, here]
      next => rfl
    | leave =>
      simp only [serveKind, serveLeave, State.putLink_laneState, State.putLink_moveLane]
      cases readNothing payload with
      | none => rfl
      | some _ => dsimp only; split_ifs <;> rfl
    | beat =>
      simp only [serveKind, serveBeat, State.putLink_lane, State.putLink_takeBeat, State.putLink_putLane]
      cases readBeat payload <;> rfl
    | claim => exact serveClaim_putLink s k u l payload
    | yield =>
      simp only [serveKind, serveYield, State.putLink_au, State.putLink_changeHolder]
      cases readEpoch payload with
      | none => rfl
      | some _ => dsimp only; split_ifs <;> rfl
    | withdraw =>
      simp only [serveKind, serveWithdraw, State.putLink_au]
      cases readNothing payload with
      | none => rfl
      | some _ =>
        dsimp only
        by_cases claimed : l ∈ s.au.claims
        · simp only [claimed, if_true]
          rfl
        · simp only [claimed, if_false]
          rfl
    | restart => exact serveRestart_putLink s k u l payload
    | pointRead => exact servePointRead_putLink s k u payload
    | pointClear => exact servePointClear_putLink s k u (.lane l) payload
    | journalRead => exact serveJournalRead_putLink s k u (.lane l) payload
    | journalRearm => exact serveJournalRearm_putLink s k u (.lane l) payload
    | status => exact absurd rfl notStatus
    | _ => rfl
  | ml =>
    cases kind with
    | restart =>
      simp only [serveKind, serveMaintenanceRestart, State.putLink_cu, State.putLink_warmRestart]
      cases readNothing payload with
      | none => rfl
      | some _ => dsimp only; split_ifs <;> rfl
    | pointRead => exact servePointRead_putLink s k u payload
    | pointClear => exact servePointClear_putLink s k u .ml payload
    | journalRead => exact serveJournalRead_putLink s k u .ml payload
    | journalRearm => exact serveJournalRearm_putLink s k u .ml payload
    | cfgOpen => exact serveCfgOpen_putLink s k u payload
    | cfgWrite => exact serveCfgWrite_putLink s k u payload
    | cfgRead => exact serveCfgRead_putLink s k u payload
    | cfgCommit => exact serveCfgCommit_putLink s k u payload
    | cfgAbort => exact serveCfgAbort_putLink s k u payload
    | status => exact absurd rfl notStatus
    | _ => rfl

/-! ### Requests taken at once -/

theorem serve_putLink (link : ReqLink) {r : Request} (notStatus : requestKind r.kind ≠ some .status)
    (same : u.state = (s.link k).state) :
    serve link r (s.putLink k u) = (serve link r s).withLink k u := by
  unfold serve
  cases known : requestKind r.kind with
  | none => rfl
  | some kind => exact serveKind_putLink s k u kind link r.payload (fun status => notStatus (status ▸ known)) same

section
variable {s} {c : Instr} {link : ReqLink} {kind : ReqKind} {tag : Byte} {payload : List Byte} {t : State}
  {result : Result} {fields : ReplyFields}

/-- A request taken at once is its service on the state before its frame, followed by its reply. -/
theorem exec_of_serve {r : Request} (request : c.request? = some (link, r))
    (notStatus : requestKind r.kind ≠ some .status) (h : s.TakesAtOnce link)
    (served : serve link r s = ⟨t, result, fields⟩) (time : t.time = s.time)
    (kept : t.link link.link = s.link link.link) :
    exec c s = .next (t.replied link ⟨r.kind, r.tag, result, fields⟩) := by
  obtain ⟨-, -, waiting, -⟩ := id h
  rw [exec_of_request s request, s.whenPowered_receive r h,
    serve_putLink s link.link { s.link link.link with
      waiting := [r]
      peerCredit := (s.link link.link).peerCredit - 1
      silence := some (s.time + 1) } link notStatus rfl, served]
  simp [State.queueReply, Answer.withLink, State.replied, kept, waiting, time]

theorem exec_of_serveKind (request : c.request? = some (link, ⟨kind.code, tag, payload⟩))
    (notStatus : kind ≠ .status) (h : s.TakesAtOnce link)
    (served : serveKind kind link payload s = ⟨t, result, fields⟩) (base : s.SameBase t ∨ s.time = t.time ∧ s.lu = t.lu) :
    exec c s = .next (t.replied link ⟨kind.code, tag, result, fields⟩) := by
  have known : requestKind kind.code = some kind := by cases kind <;> rfl
  have both : t.time = s.time ∧ t.lu = s.lu := by
    obtain base | ⟨time, lu⟩ := base
    · exact ⟨base.time, base.lu⟩
    · exact ⟨time.symm, lu.symm⟩
  refine exec_of_serve request (by rw [known]; exact fun same => notStatus (Option.some.inj same)) h ?_ both.1
    (congrArg (PerLink.get · _) both.2)
  rw [serve, known]
  exact served

/-- A lane's request taken at once. -/
theorem exec_of_lane {l : Lane} (request : c.request? = some (.lane l, ⟨kind.code, tag, payload⟩))
    (notStatus : kind ≠ .status) (h : s.TakesAtOnce (.lane l))
    (served : serveKind kind (.lane l) payload s = ⟨t, result, fields⟩) :
    exec c s = .next (t.replied (.lane l) ⟨kind.code, tag, result, fields⟩) := by
  have known : requestKind kind.code = some kind := by cases kind <;> rfl
  have base := serve_lane_base s l ⟨kind.code, tag, payload⟩
  simp only [serve, known, served] at base
  exact exec_of_serveKind request notStatus h served (.inl base)

/-- A request answered without an effect. -/
theorem exec_of_unchanged (request : c.request? = some (link, ⟨kind.code, tag, payload⟩))
    (notStatus : kind ≠ .status) (h : s.TakesAtOnce link)
    (served : serveKind kind link payload s = ⟨s, result, fields⟩) :
    exec c s = .next (s.replied link ⟨kind.code, tag, result, fields⟩) :=
  exec_of_serveKind request notStatus h served (.inl (.refl s))

end

end Sys2Proof.Machine

/-! What every command leaves: the queue of commands, RESET_N, the straps and the time but for their own commands, and the
configuration but for the maintenance link (R163, R164, R172, R189). -/

namespace Sys2Proof.Machine

/-- `t` has the queue of commands, the reset pin, the straps and the time of `s`, and where `lanes` its configuration. -/
structure State.Framed (lanes : Prop) (s t : State) : Prop where
  resetN : t.resetN = s.resetN
  straps : t.straps = s.straps
  time : t.time = s.time
  pending : t.pending = s.pending
  cu : lanes → t.cu = s.cu

section
variable {lanes : Prop} {s t u : State}

theorem State.Framed.refl (s : State) : s.Framed lanes s := ⟨rfl, rfl, rfl, rfl, fun _ => rfl⟩

theorem State.Framed.trans (h : s.Framed lanes t) (g : t.Framed lanes u) : s.Framed lanes u :=
  ⟨g.resetN.trans h.resetN, g.straps.trans h.straps, g.time.trans h.time, g.pending.trans h.pending,
    fun yes => (g.cu yes).trans (h.cu yes)⟩

theorem State.SameBase.framed (h : s.SameBase t) : s.Framed lanes t :=
  ⟨h.resetN, h.straps, h.time, h.pending, fun _ => h.cu⟩

theorem State.putLink_framed (s : State) (l : Link) (x : LinkUnit) : s.Framed lanes (s.putLink l x) :=
  ⟨rfl, rfl, rfl, rfl, fun _ => rfl⟩

/-- A change of the session framed but for the configuration, with the safe condition re-evaluated behind it. -/
theorem State.session_framed (s : State) (cu : ConfigUnit) :
    s.Framed False (({ s with cu := cu } : State).reevaluate none) := by
  have base := State.reevaluate_base { s with cu := cu } none
  exact ⟨base.resetN, base.straps, base.time, base.pending, False.elim⟩

theorem State.commit_framed (s : State) : s.Framed False s.commit := by
  have lanes := s.imageCommitted.reinitPoints.commitLanes_base
  have recorded := State.submit_base s.imageCommitted.reinitPoints.commitLanes none
    (.config s.cu.digest s.cu.staging.digest s.cu.staging.global.fitted (!s.cu.committed))
  have base := (lanes.trans recorded).trans (State.reevaluate_base _ none)
  exact ⟨base.resetN, base.straps, base.time, base.pending, False.elim⟩

/-! ### Requests -/

theorem serve_ml_framed (r : Request) (s : State) : s.Framed False (serve .ml r s).state := by
  unfold serve
  split
  · exact .refl s
  next kind _ =>
  cases kind with
  | restart => exact (serveMaintenanceRestart_base s _).framed
  | pointRead => rw [serveKind, servePointRead_state]; exact .refl s
  | pointClear => exact (servePointClear_base s _ _).framed
  | journalRead => rw [serveKind, serveJournalRead_state]; exact .refl s
  | journalRearm => exact (serveJournalRearm_base s _ _).framed
  | cfgOpen =>
    simp only [serveKind, serveCfgOpen]
    split
    · exact .refl s
    · split
      · exact .refl s
      · split
        · exact .refl s
        · exact s.session_framed { s.cu with mode := .config, staging := s.cu.active }
  | cfgWrite =>
    simp only [serveKind, serveCfgWrite]
    repeat' split
    all_goals exact ⟨rfl, rfl, rfl, rfl, False.elim⟩
  | cfgRead => rw [serveKind, serveCfgRead_state]; exact .refl s
  | cfgCommit =>
    simp only [serveKind, serveCfgCommit]
    split
    · exact .refl s
    · split
      · exact .refl s
      · split
        · exact .refl s
        · exact s.commit_framed
  | cfgAbort =>
    simp only [serveKind, serveCfgAbort]
    split
    · exact .refl s
    · split
      · exact .refl s
      · split
        · exact .refl s
        · exact s.session_framed { s.cu with mode := .operate, staging := s.cu.active }
  | status =>
    simp only [serveKind, serveStatus]
    split
    · exact .refl s
    · split <;> exact ⟨rfl, rfl, rfl, rfl, False.elim⟩
  | _ => exact .refl s

theorem serve_framed (link : ReqLink) (r : Request) (s : State) : s.Framed (link ≠ .ml) (serve link r s).state := by
  cases link with
  | lane l => exact (serve_lane_base s l r).framed
  | ml =>
    obtain ⟨resetN, straps, time, pending, -⟩ := serve_ml_framed r s
    exact ⟨resetN, straps, time, pending, fun not => absurd rfl not⟩

theorem State.takeWaiting_framed (n : Nat) (link : ReqLink) (s : State) :
    s.Framed (link ≠ .ml) (s.takeWaiting n link) := by
  induction n generalizing s with
  | zero => exact .refl s
  | succ n ih =>
    unfold State.takeWaiting
    split
    · exact .refl s
    next r _ _ =>
      split
      · exact ((serve_framed link r s).trans (State.putLink_framed _ _ _)).trans (ih _)
      · exact .refl s

/-! ### Links -/

theorem State.linkDown_framed (s : State) (l : Link) (cause : LinkCause) : s.Framed lanes (s.linkDown l cause) := by
  by_cases up : (s.link l).state.up = true
  · exact (s.putLink_framed l _).trans (s.linkDown_spec cause up).framed
  · rw [s.linkDown_of_not_up cause ((Bool.not_eq_true _).mp up)]
    exact .refl s

theorem State.withFrame_framed (s : State) (l : Link) (f : State → State)
    (inner : (s.frameHeard l).Framed lanes (f (s.frameHeard l))) : s.Framed lanes (s.withFrame l f) := by
  by_cases up : (s.link l).state.up = true
  · rcases Nat.lt_or_ge (s.link l).waiting.length 4 with room | full
    · rw [s.withFrame_of_room f up room]
      exact (s.putLink_framed l _).trans inner
    · rw [s.withFrame_of_full f up full]
      exact s.linkDown_framed l _
  · rw [s.withFrame_of_not_up f ((Bool.not_eq_true _).mp up)]
    exact .refl s

theorem State.receive_framed (s : State) (link : ReqLink) (r : Request) :
    s.Framed (link ≠ .ml) (s.receive link r) :=
  s.withFrame_framed link.link _ ((State.putLink_framed _ _ _).trans (State.takeWaiting_framed _ link _))

theorem State.endFrame_framed (s : State) (l : Link) : s.Framed (l ≠ .ml) (s.endFrame l) := by
  unfold State.endFrame
  dsimp only
  split
  · exact .refl s
  · split
    next link here =>
      have taken (u : State) (begun : s.Framed (link ≠ .ml) u) : s.Framed (l ≠ .ml) (u.takeRequests link) := by
        obtain ⟨resetN, straps, time, pending, cu⟩ := begun.trans (State.takeWaiting_framed _ link u)
        refine ⟨resetN, straps, time, pending, fun notMl => cu fun ml => notMl ?_⟩
        rw [← requestLink_eq_some here, ml]
        rfl
      exact taken _ (s.putLink_framed l _)
    next => exact s.putLink_framed l _
  · exact s.putLink_framed l _

/-- Every command of `c` but those of the pins and the clock. -/
theorem exec_framed {c : Instr} (s : State) (notAssert : c ≠ .resetAssert) (notRelease : ∀ f, c ≠ .resetRelease f)
    (notTick : c ≠ .timeUnitTick) :
    ∃ t, exec c s = .next t ∧ s.Framed (c.fromMaintenance = false) t := by
  have powered : ∀ {f : State → State}, Machine.exec c s = s.whenPowered f →
      s.Framed (c.fromMaintenance = false) (f s) → ∃ t, Machine.exec c s = .next t ∧
        s.Framed (c.fromMaintenance = false) t := by
    intro f run inner
    refine ⟨_, run, ?_⟩
    split
    · exact inner
    · exact .refl s
  have weaken : ∀ {p : Prop} {t : State}, s.Framed p t → (c.fromMaintenance = false → p) →
      s.Framed (c.fromMaintenance = false) t := fun h imp =>
    ⟨h.resetN, h.straps, h.time, h.pending, fun yes => h.cu (imp yes)⟩
  cases request : c.request? with
  | some found =>
    obtain ⟨link, r⟩ := found
    refine powered (exec_of_request s request) (weaken (s.receive_framed link r) fun notFrom ml => ?_)
    subst ml
    simp [Instr.fromMaintenance, request] at notFrom
  | none =>
    cases c with
    | badKind l kind tag payload =>
      refine powered (show Machine.exec _ s = execBadKind l kind tag payload s from rfl) ?_
      split
      · exact .refl s
      next unknown => rw [Instr.request?, unknown] at request; cases request
    | echo tag payload =>
      refine powered (show Machine.exec _ s = execEcho tag payload s from rfl) (s.withFrame_framed .dl _ ?_)
      split
      · exact (State.takeEcho_base _ _ _ _ _).framed
      · exact State.putLink_framed _ _ _
    | dispatch =>
      obtain ⟨du, x, result⟩ := s.dispatchHead_spec
      refine powered (show Machine.exec _ s = execDispatch s from rfl) ?_
      rw [result]
      exact ⟨rfl, rfl, rfl, rfl, fun _ => rfl⟩
    | echoDeadline p tag =>
      refine powered (show Machine.exec _ s = execEchoDeadline p tag s from rfl) ?_
      split
      · split
        · exact (s.failApply_base _ _ _).framed
        · exact .refl s
      · exact .refl s
    | windowExpiry p n => exact powered rfl (s.expireWindow_base p n).framed
    | departureClosing p => exact powered rfl (s.closeDeparted_base p).framed
    | beatTimeout n => exact powered rfl (s.expireBeat_base n).framed
    | holdExpiry n => exact powered rfl (s.expireHold_base n).framed
    | collectionDeadline => exact powered rfl s.expireCollection_base.framed
    | backoffExpiry l =>
      refine powered (show Machine.exec _ s = execBackoffExpiry l s from rfl) ?_
      unfold State.expireBackoff
      dsimp only
      split
      · exact s.putLink_framed l _
      · exact .refl s
    | handshakeExpiry l =>
      refine powered (show Machine.exec _ s = execHandshakeExpiry l s from rfl) ?_
      unfold State.expireHandshake
      split
      · exact s.linkDown_framed l _
      · exact .refl s
    | silenceTimeout l =>
      refine powered (show Machine.exec _ s = execSilenceTimeout l s from rfl) ?_
      unfold State.expireSilence
      split
      · exact s.linkDown_framed l _
      · exact .refl s
    | codeError l => exact powered rfl (s.linkDown_framed l _)
    | framingError l how =>
      refine powered (show Machine.exec _ s = execFramingError l how s from rfl) ?_
      cases how with
      | characterOutsideFrame => exact s.linkDown_framed l _
      | startInsideFrame => exact s.withFrame_framed l _ (State.linkDown_framed _ l _)
      | frameTooLong => exact s.withFrame_framed l _ (State.linkDown_framed _ l _)
    | grant l =>
      refine powered (show Machine.exec _ s = execGrant l s from rfl) ?_
      unfold State.grantReceived
      dsimp only
      split
      · exact .refl s
      · exact .refl s
      · exact s.putLink_framed l _
      · split
        · exact s.linkDown_framed l _
        · exact s.putLink_framed l _
    | idleReceived l =>
      refine powered (show Machine.exec _ s = execIdleReceived l s from rfl) ?_
      unfold State.idleReceived
      dsimp only
      split
      · exact .refl s
      all_goals exact s.putLink_framed l _
    | abandon l => exact powered rfl (s.withFrame_framed l _ (.refl _))
    | discardedFrame l data =>
      refine powered (show Machine.exec _ s = execDiscardedFrame l data s from rfl) ?_
      split
      · exact s.withFrame_framed l _ (State.putLink_framed _ _ _)
      · exact .refl s
    | linkEnable n =>
      refine powered (show Machine.exec _ s = execLinkEnable n s from rfl) ?_
      unfold State.enableLink
      dsimp only
      split
      · exact s.putLink_framed _ _
      · exact .refl s
    | linkDisable n =>
      refine powered (show Machine.exec _ s = execLinkDisable n s from rfl) ?_
      unfold State.disableLink
      dsimp only
      split
      · split
        · exact (s.putLink_framed _ _).trans (State.linkDown_framed _ _ _)
        · exact s.putLink_framed _ _
      · exact .refl s
    | sendReply link =>
      refine powered (show Machine.exec _ s = execSendReply link s from rfl) ?_
      unfold State.startReply
      dsimp only
      split
      · exact .refl s
      · split
        · exact s.putLink_framed _ _
        · exact .refl s
    | sendNotice n =>
      refine powered (show Machine.exec _ s = execSendNotice n s from rfl) ?_
      unfold State.startNotice
      dsimp only
      split
      · exact .refl s
      · split
        · exact ⟨rfl, rfl, rfl, rfl, fun _ => rfl⟩
        · exact .refl s
    | frameSent l =>
      refine powered rfl (weaken (s.endFrame_framed l) fun notFrom ml => ?_)
      subst ml
      cases notFrom
    | resetAssert => exact absurd rfl notAssert
    | resetRelease f => exact absurd rfl (notRelease f)
    | timeUnitTick => exact absurd rfl notTick
    | startNoFreeBuffer l =>
      refine powered (show Machine.exec _ s = execStartNoFreeBuffer l s from rfl) ?_
      split
      · exact s.linkDown_framed l _
      · exact .refl s
    | _ => cases request

end

/-! ### The queue of commands, RESET_N and the clock -/

/-- Settles O1: both clauses are the two cases of a step. -/
theorem stepRunsTheFrontCommand : Obligations.StepRunsTheFrontCommand := by
  constructor
  · intro c rest s front
    simp only [step, front]
  · intro s idle
    simp only [step, idle]

theorem exec_of_low {s : State} (low : s.resetN = .low) (f : State → State) : s.whenPowered f = .next s := by
  rw [State.whenPowered, low, if_neg nofun]

theorem exec_eq_whenPowered {c : Instr} (s : State) (notAssert : c ≠ .resetAssert)
    (notRelease : ∀ f, c ≠ .resetRelease f) : ∃ f, exec c s = s.whenPowered f := by
  cases c with
  | resetAssert => exact absurd rfl notAssert
  | resetRelease f => exact absurd rfl (notRelease f)
  | badKind l kind tag payload => exact ⟨_, show Machine.exec _ s = execBadKind l kind tag payload s from rfl⟩
  | echoDeadline p tag => exact ⟨_, show Machine.exec _ s = execEchoDeadline p tag s from rfl⟩
  | framingError l how => exact ⟨_, show Machine.exec _ s = execFramingError l how s from rfl⟩
  | timeUnitTick => exact ⟨_, show Machine.exec _ s = execTimeUnitTick s from rfl⟩
  | _ => exact ⟨_, rfl⟩

/-- Settles O3: the pin's commands read off; every other command waits for power. -/
theorem resetPinAndClock : Obligations.ResetPinAndClock := by
  intro s
  refine ⟨fun high => ?_, fun f low => ?_, fun high => State.whenPowered_of_high (fun u => { u with time := u.time + 1 }) high, fun c low notRelease => ?_⟩
  · exact congrArg Host.Outcome.next (if_pos high)
  · exact congrArg Host.Outcome.next (if_pos low)
  · by_cases assert : c = .resetAssert
    · subst assert
      exact congrArg Host.Outcome.next (if_neg (by rw [low]; nofun))
    · obtain ⟨f, run⟩ := exec_eq_whenPowered s assert notRelease
      rw [run, exec_of_low low]

/-- Settles O2: every command but those of the pins and the clock is framed. -/
theorem everyCommandGoesOn : Obligations.EveryCommandGoesOn := by
  refine ⟨fun c s => ?_, fun s blocked => ?_⟩
  · by_cases assert : c = .resetAssert
    · subst assert
      refine ⟨_, rfl, ?_, fun not => absurd rfl not⟩
      split <;> rfl
    by_cases release : ∃ f, c = .resetRelease f
    · obtain ⟨f, rfl⟩ := release
      refine ⟨_, rfl, ?_, fun _ not => absurd rfl (not f)⟩
      split <;> rfl
    by_cases tick : c = .timeUnitTick
    · subst tick
      refine ⟨_, rfl, ?_, fun _ _ => ⟨?_, ?_, fun not => absurd rfl not⟩⟩
      all_goals split <;> rfl
    obtain ⟨t, next, framed⟩ := exec_framed s assert (not_exists.mp release) tick
    exact ⟨t, next, framed.pending, fun _ _ => ⟨framed.resetN, framed.straps, fun _ => framed.time⟩⟩
  · have head : s.dispatchHead = s := by
      have mayNot : s.mayDispatch ≠ true := by
        rw [Ne, State.mayDispatch_iff, LinkUnit.mayStart_iff]
        rintro ⟨queue, ⟨run, credit, idle⟩, room⟩
        obtain h | h | h | h | h := blocked
        · exact queue h
        · exact h run
        · omega
        · exact h idle
        · omega
      unfold State.dispatchHead
      split
      · rfl
      · rw [if_neg mayNot]
    refine congrArg Host.Outcome.next ?_
    rw [head, ite_self]

/-- Settles O54: only a request of the maintenance link reaches the Configuration Unit. -/
theorem configurationChangesOnlyFromMaintenance : Obligations.ConfigurationChangesOnlyFromMaintenance := by
  intro c s t notFrom next
  by_cases tick : c = .timeUnitTick
  · subst tick
    cases next
    split <;> rfl
  · obtain ⟨u, next', framed⟩ := exec_framed s (c := c) (by rintro rfl; cases notFrom)
      (by rintro f rfl; cases notFrom) tick
    cases next.symm.trans next'
    exact framed.cu notFrom

end Sys2Proof.Machine

/-! What each reader of a payload refuses, and the requests that are answered from one unit: CLAIM, YIELD, WITHDRAW,
RESTART below its threshold, POINT_READ, BEAT with health OK, STATUS, and the kind checks (R15, R79, R94 to R98, R110,
R138, R173). -/

namespace Sys2Proof.Machine

/-! ### Payloads refused -/

theorem readNothing_eq_none {payload : List Byte} (h : payload ≠ []) : readNothing payload = none := by
  unfold readNothing
  split
  · exact absurd rfl h
  · rfl

theorem readEpoch_eq_none {payload : List Byte} (h : payload.length ≠ 2) : readEpoch payload = none := by
  unfold readEpoch
  split
  · exact absurd rfl h
  · rfl

theorem readDigest_eq_none {payload : List Byte} (h : payload.length ≠ 4) : readDigest payload = none := by
  unfold readDigest
  split
  · exact absurd rfl h
  · rfl

theorem readStart_eq_none {payload : List Byte} (h : payload.length ≠ 4) : readStart payload = none := by
  unfold readStart
  split
  · exact absurd rfl h
  · rfl

theorem readPoint_eq_none {payload : List Byte} (h : payload.length ≠ 1) : readPoint payload = none := by
  unfold readPoint
  split
  · exact absurd rfl h
  · rfl

theorem readPointClear_eq_none {payload : List Byte} (h : payload.length ≠ 3) : readPointClear payload = none := by
  unfold readPointClear
  split
  · exact absurd rfl h
  · rfl

@[simp] theorem readPointClear_be16 (b : Byte) (e : Serial) : readPointClear (b :: be16 e) = some (b, e) :=
  congrArg (fun x => some (b, x)) (from16_extract e)

theorem readBeat_eq_none {payload : List Byte} (h : ∀ b x, payload = [b, x] → x ≠ 0 ∧ x ≠ 1) :
    readBeat payload = none := by
  unfold readBeat
  split
  next b x =>
    obtain ⟨notOk, notDegraded⟩ := h b x rfl
    rw [if_neg notOk, if_neg notDegraded]
  next => rfl

theorem readStatus_eq_none {payload : List Byte} (notKeep : payload ≠ [0]) (notClear : payload ≠ [1]) :
    readStatus payload = none := by
  unfold readStatus
  split
  next f =>
    rw [if_neg (by rintro rfl; exact notKeep rfl), if_neg (by rintro rfl; exact notClear rfl)]
  next => rfl

/-! ### Kinds -/

/-- A request that every state answers the same without an effect. -/
theorem exec_of_refusal {s : State} {c : Instr} {link : ReqLink} {r : Request} {result : Result} {fields : ReplyFields}
    (request : c.request? = some (link, r)) (h : s.TakesAtOnce link)
    (refused : ∀ u, serve link r u = ⟨u, result, fields⟩) :
    exec c s = .next (s.replied link ⟨r.kind, r.tag, result, fields⟩) := by
  rw [exec_of_request s request, s.whenPowered_receive r h, refused, s.queueReply_of_unchanged r result fields h]

theorem requestKind_eq_none_iff (code : Byte) : requestKind code = none ↔ ∀ k ∈ ReqKind.all, k.code ≠ code := by
  simp [requestKind]

/-- Settles O56: the refusals do not read the state. -/
theorem kindsAreCheckedFirst : Obligations.KindsAreCheckedFirst := by
  refine ⟨fun code => ?_, fun link kind tag payload s h => ⟨fun unknown => ?_, fun ml => ?_, ?_⟩⟩
  · rw [requestKind_eq_none_iff]
    simp [ReqKind.all, ReqKind.code, eq_comm]
  · refine exec_of_refusal (r := ⟨kind, tag, payload⟩) ?_ h fun u => ?_
    · rw [Instr.request?, unknown]
      rfl
    · rw [serve, unknown]
      rfl
  · subst ml
    exact exec_of_refusal (r := ⟨0x22, tag, payload⟩) rfl h fun _ => rfl
  · rintro l rfl code c listed
    have refused : ∀ kind : ReqKind, kind ∈ [ReqKind.cfgOpen, .cfgWrite, .cfgRead, .cfgCommit, .cfgAbort, .status] →
        c.request? = some (.lane l, ⟨kind.code, tag, payload⟩) →
        exec c s = .next (s.replied (.lane l) ⟨kind.code, tag, .notPermitted, .nothing⟩) := by
      intro kind listed request
      refine exec_of_refusal request h fun u => ?_
      simp only [List.mem_cons, List.not_mem_nil, or_false] at listed
      obtain rfl | rfl | rfl | rfl | rfl | rfl := listed <;> rfl
    simp only [List.mem_cons, Prod.mk.injEq, List.not_mem_nil, or_false] at listed
    obtain ⟨rfl, rfl⟩ | ⟨rfl, rfl⟩ | ⟨rfl, rfl⟩ | ⟨rfl, rfl⟩ | ⟨rfl, rfl⟩ | ⟨rfl, rfl⟩ := listed
    · exact refused .cfgOpen (by simp) rfl
    · exact refused .cfgWrite (by simp) rfl
    · exact refused .cfgRead (by simp) rfl
    · exact refused .cfgCommit (by simp) rfl
    · exact refused .cfgAbort (by simp) rfl
    · exact refused .status (by simp) rfl

/-! ### CLAIM, YIELD and WITHDRAW -/

/-- Settles O34: each clause is a branch of the service of CLAIM. -/
theorem claimResults : Obligations.ClaimResults := by
  intro l tag payload s
  dsimp only
  refine ⟨fun h => exec_of_unchanged (kind := .claim) rfl nofun h rfl, fun h => ⟨fun long => ?_, fun config => ?_,
    fun operate notMember => ?_, fun operate member => ⟨fun free => ?_, fun own => ?_, fun other held notOwn =>
      ⟨fun queued => ?_, fun notQueued => ?_⟩⟩⟩⟩
  all_goals refine exec_of_lane (kind := .claim) rfl nofun h ?_
  all_goals simp only [serveKind, serveClaim]
  · rw [readNothing_eq_none long]
    rfl
  · exact if_pos config
  · simp only [readNothing, operate, if_pos notMember]
    rfl
  · simp only [readNothing, operate, member, free]
    rw [State.changeHolder, State.submit_au, free]
    rfl
  · simp [readNothing, operate, member, own]
  · simp [readNothing, operate, member, held, notOwn, queued, claimPosition]
  · simp [readNothing, operate, member, held, notOwn, notQueued]

theorem claims_filter_of_mem {claims : List Lane} (nodup : claims.Nodup) (l : Lane) :
    claims.filter (fun m => m != l) = claims.erase l := (nodup.erase_eq_filter l).symm

/-- Settles O35: each clause is a branch of the services of YIELD and WITHDRAW. -/
theorem authorityIsYieldedAndClaimsWithdrawn : Obligations.AuthorityIsYieldedAndClaimsWithdrawn := by
  intro l tag payload epoch s
  dsimp only
  refine ⟨fun h => ⟨exec_of_unchanged (kind := .yield) rfl nofun h rfl,
    exec_of_unchanged (kind := .withdraw) rfl nofun h rfl⟩, fun h => ⟨fun long => ?_, fun notHolder => ?_,
      fun holder stale => ?_, fun holder current => ?_, fun long => ?_, fun absent => ?_, fun queued nodup => ?_⟩⟩
  · refine exec_of_lane (kind := .yield) rfl nofun h ?_
    simp only [serveKind, serveYield, readEpoch_eq_none long]
    rfl
  · refine exec_of_lane (kind := .yield) rfl nofun h ?_
    simp only [serveKind, serveYield, readEpoch_be16, if_pos notHolder]
    rfl
  · refine exec_of_lane (kind := .yield) rfl nofun h ?_
    simp [serveKind, serveYield, holder, stale, State.refuse]
  · refine exec_of_lane (kind := .yield) rfl nofun h ?_
    simp [serveKind, serveYield, holder, current, State.changeHolder, AuthorityUnit.change]
    rfl
  · refine exec_of_lane (kind := .withdraw) rfl nofun h ?_
    simp only [serveKind, serveWithdraw, readNothing_eq_none long]
    rfl
  · refine exec_of_lane (kind := .withdraw) rfl nofun h ?_
    simp [serveKind, serveWithdraw, readNothing, absent, State.refuse]
  · refine exec_of_lane (kind := .withdraw) rfl nofun h ?_
    simp [serveKind, serveWithdraw, readNothing, queued, AuthorityUnit.dropClaim, claims_filter_of_mem nodup]

/-! ### RESTART below its threshold -/

theorem remainingUnits_eq (now deadline : Time) :
    remainingUnits now deadline = if timeReached now deadline = true then 1 else max 1 (deadline - now).toNat := by
  unfold remainingUnits timeLeft
  split <;> rfl

theorem LaneSet.count_insert {x : LaneSet} {l : Lane} (absent : x.get l = false) : (x.insert l).count = x.count + 1 := by
  obtain ⟨a, b, c⟩ := x
  cases l <;> cases absent <;> simp [LaneSet.insert, LaneSet.count, PerLane.set] <;> omega

theorem remainingUnits_after (now : Time) : remainingUnits now (after now 500) = 500 := by
  have notReached : timeReached now (now + 500#32) = false := by
    rw [timeReached, show now - (now + 500#32) = -500#32 by bv_omega]
    decide
  rw [remainingUnits_eq, after, if_neg (by rw [notReached]; nofun), show now + 500#32 - now = 500#32 by bv_omega]
  rfl

/-- Settles O38: each clause is a branch of the service of RESTART, or of the collection's deadline. -/
theorem restartVotesAreCollected : Obligations.RestartVotesAreCollected := by
  intro l tag payload s
  dsimp only
  refine ⟨fun h => ⟨fun long => ?_, fun config => ?_, fun operate notMember => ?_, fun operate member =>
    ⟨fun none' few => ?_, fun c held voted => ?_, fun c held fresh few => ?_⟩⟩, fun c high held =>
      ⟨fun reached => ?_, fun notReached => ?_⟩⟩
  · refine exec_of_lane (kind := .restart) rfl nofun h ?_
    simp only [serveKind, serveRestart, readNothing_eq_none long]
    rfl
  · refine exec_of_lane (kind := .restart) rfl nofun h ?_
    simp [serveKind, serveRestart, readNothing, config, State.refuse]
  · refine exec_of_lane (kind := .restart) rfl nofun h ?_
    simp [serveKind, serveRestart, readNothing, operate, notMember, State.refuse]
  · refine exec_of_lane (kind := .restart) rfl nofun h ?_
    have one : (LaneSet.single l).count = 1 := by cases l <;> rfl
    simp only [serveKind, serveRestart, readNothing, operate, member, none', State.collectionWith, Option.filter_none,
      State.voteFields, one, restartThreshold, Config.collectionUnits, remainingUnits_after]
    rw [if_neg nofun, if_neg (fun ne => ne rfl), if_neg (by omega)]
    rfl
  · refine exec_of_lane (kind := .restart) rfl nofun h ?_
    simp only [serveKind, serveRestart, readNothing, operate, member, held, Option.filter_some, voted, State.voteFields,
      remainingUnits_eq, restartThreshold, if_true]
    rw [if_neg nofun, if_neg (fun ne => ne rfl)]
  · refine exec_of_lane (kind := .restart) rfl nofun h ?_
    simp only [serveKind, serveRestart, readNothing, operate, member, held, State.collectionWith, Option.filter_some,
      fresh, State.voteFields, LaneSet.count_insert fresh, restartThreshold, remainingUnits_eq]
    rw [if_neg nofun, if_neg (fun ne => ne rfl), if_neg nofun, if_neg (by omega)]
    rfl
  · refine (State.whenPowered_of_high State.expireCollection high).trans ?_
    rw [State.expireCollection, held]
    exact congrArg Host.Outcome.next (if_pos reached)
  · refine (State.whenPowered_of_high State.expireCollection high).trans ?_
    rw [State.expireCollection, held]
    exact congrArg Host.Outcome.next (if_neg (by rw [notReached]; nofun))

/-! ### POINT_READ -/

theorem serveKind_pointRead (link : ReqLink) (payload : List Byte) (s : State) :
    serveKind .pointRead link payload s = servePointRead payload s := by
  cases link <;> rfl

/-- Settles O40: each clause is a branch of the service of POINT_READ. -/
theorem pointReadReportsThePoint : Obligations.PointReadReportsThePoint := by
  intro link tag payload b s h
  refine ⟨fun long => ?_, fun above => ?_, fun p at_ => ?_⟩
  all_goals refine exec_of_unchanged (kind := .pointRead) rfl nofun h ?_
  all_goals rw [serveKind_pointRead, servePointRead]
  · rw [readPoint_eq_none long]
    rfl
  · simp only [readPoint, pointOf_eq_none above]
    rfl
  · simp only [readPoint, pointOf_of_val at_]
    rfl

/-! ### BEAT with health OK and STATUS -/

/-- Settles O30: a beat with health OK writes the lane's entry alone. -/
theorem beatIsAnsweredWithTheState : Obligations.BeatIsAnsweredWithTheState := by
  intro l tag q payload s h
  refine ⟨fun malformed => ?_, ?_⟩
  · refine exec_of_lane (kind := .beat) rfl nofun h ?_
    simp only [serveKind, serveBeat, readBeat_eq_none malformed]
    rfl
  · refine exec_of_lane (kind := .beat) rfl nofun h ?_
    have entry : ((s.takeBeat l .ok).putLane l { (s.takeBeat l .ok).lane l with beatSeq := some q }) =
        s.putLane l { s.lane l with
          beatSeq := some q
          beatDeadline := if (s.laneState l).joined = true then some (s.time + BitVec.ofNat 32 (s.global.beatTimeout * 10))
            else (s.lane l).beatDeadline } := by
      unfold State.takeBeat
      dsimp only
      by_cases joined : (s.laneState l).joined = true
      · rw [if_pos joined, if_pos joined, State.lane_putLane_self, State.putLane_putLane]
        rfl
      · rw [if_neg joined, if_neg joined]
    have states : ∀ m, (s.putLane l { s.lane l with
        beatSeq := some q
        beatDeadline := if (s.laneState l).joined = true then some (s.time + BitVec.ofNat 32 (s.global.beatTimeout * 10))
          else (s.lane l).beatDeadline }).laneState m = s.laneState m := by
      intro m
      rw [State.laneState, State.lane_putLane]
      split
      next same => rw [same]; rfl
      next => rfl
    have read : readBeat [q, 0] = some (q, .ok) := rfl
    simp only [serveKind, serveBeat, read, entry, State.stateReport, State.members_of_states states, states,
      State.lane_putLane_self]
    rfl

/-- Settles O55: the report does not show what the request's own frame does to its link. -/
theorem statusReportsThePart : Obligations.StatusReportsThePart := by
  intro tag payload s h
  have waiting := h.2.2.1
  refine ⟨fun notKeep notClear => ?_, ?_, ?_⟩
  · refine exec_of_refusal (r := ⟨0x78, tag, payload⟩) rfl h fun u => ?_
    rw [serve, show requestKind 0x78 = some .status from rfl]
    simp only [serveKind, serveStatus, readStatus_eq_none notKeep notClear]
    rfl
  · rw [exec_of_request (r := ⟨0x78, tag, [0]⟩) s rfl, s.whenPowered_receive _ h]
    exact congrArg Host.Outcome.next (s.queueReply_of_unchanged ⟨0x78, tag, [0]⟩ .ok (.status s.statusReport) h)
  · rw [exec_of_request (r := ⟨0x78, tag, [1]⟩) s rfl, s.whenPowered_receive _ h]
    refine congrArg Host.Outcome.next ?_
    let t : State := { s with lu := s.lu.map LinkUnit.countsCleared }
    have unread : (t.link .ml).waiting = [] := waiting
    change _ = t.replied .ml _
    rw [State.replied]
    dsimp only [ReqLink.link]
    rw [unread]
    rfl

end Sys2Proof.Machine

/-! What a record and a notice submitted come to, and the requests of the journal and of a FAULTED point: JOURNAL_READ,
JOURNAL_REARM and POINT_CLEAR (R131, R133, R141, R143, R152 to R159). -/

namespace Sys2Proof.Machine

/-! ### Records and notices submitted -/

theorem TriggerMask.selects_iff (m : TriggerMask) (body : RecordBody) : m.selects body = true ↔
    (m.laneExcluded = true ∧ ∃ old cause strikes, body = .lane old .excluded cause strikes) ∨
    (m.pointFault = true ∧ ∃ p tag v cause readback left, body = .applyFail p tag v cause readback true left) ∨
    (m.noDecision = true ∧ ∃ r, body = .outcome r ∧
      (r.outcome = .split ∨ r.outcome = .short ∨ r.outcome = .empty ∨ r.outcome = .noAuthority)) ∨
    (m.safeEntered = true ∧ ∃ members least, body = .safe .entered members least) ∨
    (m.authorityLost = true ∧ ∃ old new epoch cause, body = .authority old new epoch cause ∧
      (cause = .lost ∨ cause = .succeededQueue ∨ cause = .succeededRank)) ∨
    (m.restart = true ∧ ∃ kind voters, body = .restart kind voters) := by
  cases body with
  | authority old new epoch cause => simp [TriggerMask.selects, or_assoc]
  | _ => simp [TriggerMask.selects, and_comm, or_assoc]

section
variable (s : State) (sub : Option Lane) (b : RecordBody)

/-- A record that does not freeze the journal changes nothing but the journal. -/
theorem State.submit_of_still (still : s.ij.state = .frozen ∨
      (s.ij.submit s.global.triggers s.global.postCount s.time sub b).state ≠ .frozen) :
    s.submit sub b = { s with ij := s.ij.submit s.global.triggers s.global.postCount s.time sub b } := by
  unfold State.submit
  dsimp only
  rw [if_neg]
  rintro ⟨notFrozen, frozen⟩
  exact still.elim notFrozen fun not => not frozen

/-- A record that freezes the journal is followed by the JOURNAL_FROZEN notice. -/
theorem State.submit_of_freezes {n : Notice} (running : s.ij.state ≠ .frozen)
    (freezes : (s.ij.submit s.global.triggers s.global.postCount s.time sub b).state = .frozen)
    (notice : (s.ij.submit s.global.triggers s.global.postCount s.time sub b).frozenNotice = some n) :
    s.submit sub b =
      ({ s with ij := s.ij.submit s.global.triggers s.global.postCount s.time sub b } : State).notify s.joined n := by
  unfold State.submit
  dsimp only
  rw [if_pos ⟨running, freezes⟩, notice]
  rfl

theorem Journal.submit_of_unselected {j : Journal} {m : TriggerMask} (k : Nat) (now : Time)
    (recording : j.state = .recording) (unselected : m.selects b = false) :
    j.submit m k now sub b = j.store now sub b := by
  simp [Journal.submit, recording, unselected]

theorem Journal.submit_of_selected {j : Journal} {m : TriggerMask} (k : Nat) (now : Time)
    (recording : j.state = .recording) (selected : m.selects b = true) :
    j.submit m k now sub b = { j.store now sub b with
      trigger := some ⟨j.counter, b.kind, sub⟩
      postCounter := k
      state := if k = 0 then .frozen else .postTrigger } := by
  simp [Journal.submit, recording, selected]

theorem Journal.submit_of_postTrigger {j : Journal} (m : TriggerMask) (k : Nat) (now : Time)
    (triggered : j.state = .postTrigger) :
    j.submit m k now sub b = { j.store now sub b with
      postCounter := j.postCounter - 1
      state := if j.postCounter - 1 = 0 then .frozen else .postTrigger } := by
  simp [Journal.submit, triggered]

/-- A record that no trigger selects, submitted to a RECORDING journal. -/
theorem State.submit_of_unselected (recording : s.ij.state = .recording)
    (unselected : s.global.triggers.selects b = false) :
    s.submit sub b = { s with ij := s.ij.store s.time sub b } := by
  have stored := Journal.submit_of_unselected sub b s.global.postCount s.time recording unselected
  rw [s.submit_of_still sub b (.inr (by rw [stored, Journal.store_state, recording]; nofun)), stored]

end

/-- Settles O49: the selections of Table 9.3, the rows of Table 9.2, and a notice lane by lane. -/
theorem recordsAndNoticesAreTaken : Obligations.RecordsAndNoticesAreTaken := by
  refine ⟨TriggerMask.selects_iff, fun sub b s => ⟨fun frozen => ?_, fun recording unselected => ?_,
    fun recording selected some' => ?_, fun recording selected none' => ?_, fun triggered more => ?_,
    fun t triggered last held => ?_⟩, fun recipients n s => ⟨rfl, fun l => ⟨fun other => ?_, fun sent joined =>
      ⟨fun room => ?_, fun full => ?_⟩⟩⟩⟩
  · rw [s.submit_of_still sub b (.inl frozen), Journal.submit_of_frozen _ _ _ _ _ frozen, satInc_eq_min]
  · exact s.submit_of_unselected sub b recording unselected
  · have taken := Journal.submit_of_selected sub b s.global.postCount s.time recording selected
    rw [if_neg some'] at taken
    rw [s.submit_of_still sub b (.inr (by rw [taken]; nofun)), taken]
    rfl
  · have taken := Journal.submit_of_selected sub b s.global.postCount s.time recording selected
    rw [if_pos none', none'] at taken
    rw [s.submit_of_freezes sub b (n := .journalFrozen s.ij.counter b.kind sub s.ij.counter) (by rw [recording]; nofun)
      (by rw [none', taken]) ?_, none', taken]
    · rfl
    · rw [none', taken]
      simp [Journal.frozenNotice, Journal.store]
  · have taken := Journal.submit_of_postTrigger sub b s.global.triggers s.global.postCount s.time triggered
    rw [if_neg (by omega)] at taken
    rw [s.submit_of_still sub b (.inr (by rw [taken]; nofun)), taken, ← triggered]
    rfl
  · have taken := Journal.submit_of_postTrigger sub b s.global.triggers s.global.postCount s.time triggered
    rw [if_pos (by omega), last] at taken
    rw [s.submit_of_freezes sub b (n := .journalFrozen t.seq t.kind t.subject s.ij.counter)
      (by rw [triggered]; nofun) (by rw [taken]) ?_, taken]
    · rfl
    · rw [taken]
      simp [Journal.frozenNotice, Journal.store, held]
  · rw [State.get_notify, if_neg]
    rintro both
    rw [Bool.and_eq_true] at both
    obtain absent | apart := other
    · rw [absent] at both
      exact Bool.false_ne_true both.1
    · rw [apart] at both
      exact Bool.false_ne_true both.2
  · rw [State.get_notify, if_pos (by rw [sent, joined]; rfl), NoticeBox.push_of_room n room]
  · rw [State.get_notify, if_pos (by rw [sent, joined]; rfl), NoticeBox.push_of_full n full, satInc_eq_min]

/-! ### The authority check -/

theorem State.authorityRefusal_eq_none {s : State} {link : ReqLink} {epoch : Serial}
    (passes : ∀ l, link = .lane l → s.au.holder = some l ∧ epoch = s.au.epoch) :
    s.authorityRefusal link epoch = none := by
  cases link with
  | ml => rfl
  | lane l =>
    obtain ⟨holder, current⟩ := passes l rfl
    simp [State.authorityRefusal, holder, current]

theorem State.authorityRefusal_of_notHolder {s : State} {l : Lane} (epoch : Serial) (other : s.au.holder ≠ some l) :
    s.authorityRefusal (.lane l) epoch = some .notHolder := if_pos other

theorem State.authorityRefusal_of_stale {s : State} {l : Lane} {epoch : Serial} (holder : s.au.holder = some l)
    (stale : epoch ≠ s.au.epoch) : s.authorityRefusal (.lane l) epoch = some .staleEpoch := by
  simp [State.authorityRefusal, holder, stale]

/-! ### POINT_CLEAR -/

theorem serveKind_pointClear (link : ReqLink) (payload : List Byte) (s : State) :
    serveKind .pointClear link payload s = servePointClear link payload s := by
  cases link <;> rfl

/-- Settles O42: each clause is a branch of the service of POINT_CLEAR. -/
theorem pointClearRequeuesTheFaultedPoint : Obligations.PointClearRequeuesTheFaultedPoint := by
  intro link tag payload b epoch s h
  dsimp only
  have refused : ∀ r, servePointClear link (b :: be16 epoch) s = s.refuse r →
      exec (.pointClear link tag (b :: be16 epoch)) s = .next (s.replied link ⟨0x51, tag, r, .nothing⟩) :=
    fun r served => exec_of_unchanged (kind := .pointClear) rfl nofun h ((serveKind_pointClear _ _ _).trans served)
  refine ⟨fun long => ?_, ?_, ?_, fun passes above => refused _ ?_, fun p at_ passes =>
    ⟨fun sound => refused _ ?_, fun faulted => ?_⟩⟩
  · refine exec_of_unchanged (kind := .pointClear) rfl nofun h ((serveKind_pointClear _ _ _).trans ?_)
    rw [servePointClear, readPointClear_eq_none long]
    rfl
  · rintro l rfl other
    refine refused _ ?_
    simp only [servePointClear, readPointClear_be16, State.authorityRefusal_of_notHolder epoch other]
  · rintro l rfl holder stale
    refine refused _ ?_
    simp only [servePointClear, readPointClear_be16, State.authorityRefusal_of_stale holder stale]
  · simp only [servePointClear, readPointClear_be16, State.authorityRefusal_eq_none passes, pointOf_eq_none above]
  · simp only [servePointClear, readPointClear_be16, State.authorityRefusal_eq_none passes, pointOf_of_val at_,
      if_pos sound]
  · have served : servePointClear link (b :: be16 epoch) s =
        ⟨s.clearPoint p (senderOf link), .ok, .cleared p (s.driveOf p).target⟩ := by
      simp only [servePointClear, readPointClear_be16, State.authorityRefusal_eq_none passes, pointOf_of_val at_,
        faulted, ne_eq, not_true_eq_false, if_false]
    rw [exec_of_serveKind (kind := .pointClear) rfl nofun h ((serveKind_pointClear _ _ _).trans served)
      (.inl (s.clearPoint_base p _))]
    have target : (({ s with du := s.du.clear s.global.echoRetries p } : State).driveOf p) =
        { s.driveOf p with confirmed := none, status := .queued, budget := s.global.echoRetries } :=
      DriveUnit.part_putPart_self _ _ _
    cases link <;> simp only [State.clearPoint, target, senderOf] <;> rfl

/-! ### JOURNAL_READ and JOURNAL_REARM -/

theorem serveKind_journalRead (link : ReqLink) (payload : List Byte) (s : State) :
    serveKind .journalRead link payload s = serveJournalRead link payload s := by
  cases link <;> rfl

theorem serveKind_journalRearm (link : ReqLink) (payload : List Byte) (s : State) :
    serveKind .journalRearm link payload s = serveJournalRearm link payload s := by
  cases link <;> rfl

/-- The bytes of the first records of a list. -/
def sizeOfFirst (n : Nat) (records : List Record) : Nat := ((records.take n).map Record.bytes).flatten.length

theorem sizeOfFirst_succ (n : Nat) (r : Record) (rest : List Record) :
    sizeOfFirst (n + 1) (r :: rest) = r.bytes.length + sizeOfFirst n rest := by
  simp [sizeOfFirst]

/-- As many whole records as fit: one more would not. -/
theorem recordsThatFit_spec (room : Nat) (records : List Record) :
    ∃ count, recordsThatFit room records = records.take count ∧ count ≤ records.length ∧
      sizeOfFirst count records ≤ room ∧ (count < records.length → room < sizeOfFirst (count + 1) records) := by
  induction records generalizing room with
  | nil => exact ⟨0, rfl, Nat.le_refl 0, Nat.zero_le _, fun h => absurd h (Nat.lt_irrefl 0)⟩
  | cons r rest ih =>
    by_cases fits : r.bytes.length ≤ room
    · obtain ⟨count, same, most, inside, next⟩ := ih (room - r.bytes.length)
      refine ⟨count + 1, ?_, Nat.succ_le_succ most, ?_, fun less => ?_⟩
      · rw [recordsThatFit, if_pos fits, same, List.take_succ_cons]
      · rw [sizeOfFirst_succ]
        omega
      · have := next (Nat.lt_of_succ_lt_succ less)
        rw [sizeOfFirst_succ]
        omega
    · refine ⟨0, ?_, Nat.zero_le _, Nat.zero_le _, fun _ => ?_⟩
      · rw [recordsThatFit, if_neg fits]
        rfl
      · rw [sizeOfFirst_succ]
        omega

theorem OutcomeReport.bytes_eq (r : OutcomeReport) : r.bytes = outcomeLayout r := by
  simp only [OutcomeReport.bytes, outcomeLayout, byte, List.flatMap_def]
  rfl

theorem length_value? (v : Option Value) : (value? v).length = 3 := by cases v <;> rfl

theorem length_word32? (v : Option Word32) : (word32? v).length = 5 := by cases v <;> rfl

theorem length_outcomeLayout (r : OutcomeReport) : (outcomeLayout r).length = 10 + 5 * r.entries.length := by
  have entries : ∀ list : List Mention,
      (list.flatMap fun e => [laneByte e.lane] ++ value? e.value ++ [e.mark.code]).length = 5 * list.length := by
    intro list
    induction list with
    | nil => rfl
    | cons e rest ih =>
      simp only [List.flatMap_cons, List.length_append, ih, length_value?, List.length_cons, List.length_nil]
      omega
  simp only [outcomeLayout, List.length_append, entries, length_value?, be16, List.length_cons, List.length_nil]

/-- A record's bytes from its kind fields. -/
theorem Record.bytes_of_fields {body : RecordBody} {kind : Byte} {length : Nat} {fields : List Byte}
    (code : body.kind.code = kind) (same : body.bytes = fields) (counted : fields.length = length) :
    fields.length = length ∧ ∀ (seq : Word32) (time : Time) (subject : Option Lane),
      Record.bytes ⟨seq, time, subject, body⟩ =
        be32 seq ++ be32 time ++ [kind, laneByte? subject, BitVec.ofNat 8 length] ++ fields := by
  refine ⟨counted, fun seq time subject => ?_⟩
  rw [Record.bytes, same, counted, code]
  rfl

/-- Settles O48: the bytes of each kind of record, and each branch of the services of JOURNAL_READ and JOURNAL_REARM. -/
theorem journalIsReadAndRearmed : Obligations.JournalIsReadAndRearmed := by
  refine ⟨⟨fun r => Record.bytes_of_fields rfl r.bytes_eq (length_outcomeLayout r),
    fun _ _ _ _ => Record.bytes_of_fields rfl rfl rfl, fun _ _ _ _ => Record.bytes_of_fields rfl rfl rfl,
    fun _ _ _ _ readback _ _ => Record.bytes_of_fields rfl rfl (by simp [be16, length_value?]),
    fun _ _ _ readback => Record.bytes_of_fields rfl rfl (by simp [length_value?]),
    fun _ _ _ _ => Record.bytes_of_fields rfl rfl rfl, fun _ _ _ => Record.bytes_of_fields rfl rfl rfl,
    fun _ _ => Record.bytes_of_fields rfl rfl rfl, fun _ _ _ _ => Record.bytes_of_fields rfl rfl rfl,
    fun _ trigger _ => Record.bytes_of_fields rfl rfl (by simp [be16, length_word32?])⟩, ?_⟩
  intro link tag payload start epoch s h
  dsimp only
  have read : ∀ {bytes : List Byte} {r : Result} {f : ReplyFields}, serveJournalRead link bytes s = ⟨s, r, f⟩ →
      exec (.journalRead link tag bytes) s = .next (s.replied link ⟨0x60, tag, r, f⟩) :=
    fun served => exec_of_unchanged (kind := .journalRead) rfl nofun h ((serveKind_journalRead _ _ _).trans served)
  have rearm : ∀ {bytes : List Byte} {r : Result}, serveJournalRearm link bytes s = s.refuse r →
      exec (.journalRearm link tag bytes) s = .next (s.replied link ⟨0x61, tag, r, .nothing⟩) :=
    fun served => exec_of_unchanged (kind := .journalRearm) rfl nofun h ((serveKind_journalRearm _ _ _).trans served)
  refine ⟨fun long => read ?_, ?_, fun passes => ?_, fun long => rearm ?_, ?_, fun passes =>
    ⟨fun recording => rearm ?_, fun stopped => ?_⟩⟩
  · rw [serveJournalRead, readStart_eq_none long]
    rfl
  · rintro l rfl
    refine ⟨fun running => read ?_, fun frozen outside => read ?_, fun frozen member subject => read ?_⟩
    · simp only [serveJournalRead, readStart_be32, State.readRefusal, if_pos running]
      rfl
    · simp [serveJournalRead, State.readRefusal, frozen, outside, State.refuse]
    · simp [serveJournalRead, State.readRefusal, frozen, member, subject, State.refuse]
  · have allowed : s.readRefusal link = none := by
      cases link with
      | ml => rfl
      | lane l =>
        obtain ⟨frozen, member, other⟩ := passes l rfl
        simp [State.readRefusal, frozen, member, other]
    obtain ⟨count, same, most, inside, next⟩ := recordsThatFit_spec 106 (s.ij.readFrom start).2
    refine ⟨(s.ij.readFrom start).1, (s.ij.readFrom start).2, count, read ?_, most, inside, next, fun empty => ?_,
      fun r rest held => ⟨fun inside => ?_, fun past near => ?_, fun past far => ?_⟩⟩
    · simp only [serveJournalRead, readStart_be32, allowed]
      rw [← same]
      rfl
    · rw [Journal.readFrom, empty]
      exact ⟨rfl, rfl⟩
    all_goals simp only [Journal.readFrom, held] at *
    · rw [if_pos inside]
      exact ⟨rfl, rfl⟩
    · rw [if_neg (by omega), if_pos (by omega)]
      exact ⟨rfl, rfl⟩
    · rw [if_neg (by omega), if_neg (by omega)]
      exact ⟨rfl, rfl⟩
  · rw [serveJournalRearm, readEpoch_eq_none long]
  · rintro l rfl
    refine ⟨fun other => rearm ?_, fun holder stale => rearm ?_⟩
    · simp only [serveJournalRearm, readEpoch_be16, State.authorityRefusal_of_notHolder epoch other]
    · simp only [serveJournalRearm, readEpoch_be16, State.authorityRefusal_of_stale holder stale]
  · simp only [serveJournalRearm, readEpoch_be16, State.authorityRefusal_eq_none passes, if_pos recording]
  · have served : serveJournalRearm link (be16 epoch) s =
        ⟨s.rearm (senderOf link), .ok, .sequence s.ij.counter⟩ := by
      simp only [serveJournalRearm, readEpoch_be16, State.authorityRefusal_eq_none passes, if_neg stopped]
    rw [exec_of_serveKind (kind := .journalRearm) rfl nofun h ((serveKind_journalRearm _ _ _).trans served)
      (.inl (s.rearm_base _)), State.rearm, State.submit_of_unselected]
    · cases link <;> rfl
    · rfl
    · rfl

end Sys2Proof.Machine

/-! Configuration sessions: CFG_OPEN, CFG_ABORT, CFG_WRITE and CFG_READ (R166, R167, R168, R171). -/

namespace Sys2Proof.Machine

/-! ### A session opened and abandoned -/

/-- The safe condition stands as it should: its re-evaluation changes nothing. -/
theorem State.reevaluate_of_settled {s : State} (sub : Option Lane) (settled : s.shouldBeSafe = s.sc.flag) :
    s.reevaluate sub = s := by
  unfold State.reevaluate
  rw [settled]
  cases s.sc.flag <;> rfl

theorem State.memberCount_of_none_joined {s : State} (apart : ∀ l, (s.laneState l).joined = false) :
    s.memberCount = 0 :=
  s.memberCount_eq_zero_iff.mpr fun l member => by
    have := apart l
    rw [member] at this
    cases this

/-- With every lane apart the safe flag is set (R105). -/
theorem State.SafetySound.flag_of_apart {s : State} (sound : s.SafetySound)
    (apart : ∀ l, (s.laneState l).joined = false) : s.sc.flag = true := by
  obtain ⟨flag, -, least, -⟩ := sound
  refine flag.mpr (.inr ?_)
  rw [State.memberCount_of_none_joined apart]
  exact least

/-- A change of the session while every lane is apart leaves the safe condition. -/
theorem State.session_reevaluate {s : State} (sound : s.SafetySound) (apart : ∀ l, (s.laneState l).joined = false)
    (mode : Mode) :
    ({ s with cu := { s.cu with mode := mode, staging := s.cu.active } } : State).reevaluate none =
      { s with cu := { s.cu with mode := mode, staging := s.cu.active } } := by
  refine State.reevaluate_of_settled none ?_
  rw [show ({ s with cu := { s.cu with mode := mode, staging := s.cu.active } } : State).sc.flag = true from
    sound.flag_of_apart apart, State.safeShould_iff]
  refine .inr ?_
  change s.memberCount < s.cu.active.global.minMembers
  rw [State.memberCount_of_none_joined apart]
  exact sound.2.2.1

/-- Settles O50: each clause is a branch of the services of CFG_OPEN and CFG_ABORT. -/
theorem sessionOpensAndIsAbandoned : Obligations.SessionOpensAndIsAbandoned := by
  intro tag payload s h
  dsimp only
  refine ⟨fun long => exec_of_unchanged (kind := .cfgOpen) rfl nofun h ?_,
    fun config => exec_of_unchanged (kind := .cfgOpen) rfl nofun h ?_,
    fun operate busy => exec_of_unchanged (kind := .cfgOpen) rfl nofun h ?_,
    fun operate apart closed sound => exec_of_serveKind (kind := .cfgOpen) rfl nofun h ?_ (.inr ⟨rfl, rfl⟩),
    fun long => exec_of_unchanged (kind := .cfgAbort) rfl nofun h ?_,
    fun operate => exec_of_unchanged (kind := .cfgAbort) rfl nofun h ?_,
    fun config first => exec_of_unchanged (kind := .cfgAbort) rfl nofun h ?_,
    fun config committed apart sound => exec_of_serveKind (kind := .cfgAbort) rfl nofun h ?_ (.inr ⟨rfl, rfl⟩)⟩
  · rw [serveKind, serveCfgOpen, readNothing_eq_none long]
    rfl
  · simp only [serveKind, serveCfgOpen, readNothing, config]
  · have blocked : s.joined.isEmpty = false ∨ s.slotOpen = true := by
      rw [Bool.eq_false_iff, Ne, State.joined_isEmpty_iff, State.slotOpen_iff]
      refine busy.imp_left fun ⟨l, joined⟩ all => ?_
      rw [all l] at joined
      cases joined
    simp only [serveKind, serveCfgOpen, readNothing, operate, if_pos blocked]
    rfl
  · have open' : ¬ (s.joined.isEmpty = false ∨ s.slotOpen = true) := by
      rw [Bool.eq_false_iff, Ne, State.joined_isEmpty_iff, State.slotOpen_iff]
      rintro (some' | ⟨p, slot⟩)
      · exact some' apart
      · exact slot (closed p)
    simp only [serveKind, serveCfgOpen, readNothing, operate, if_neg open', State.session_reevaluate sound apart]
  · rw [serveKind, serveCfgAbort, readNothing_eq_none long]
    rfl
  · simp only [serveKind, serveCfgAbort, readNothing, if_pos operate]
    rfl
  · simp [serveKind, serveCfgAbort, readNothing, config, first, State.refuse]
  · rw [serveKind, serveCfgAbort, readNothing]
    dsimp only
    rw [if_neg (by rw [config]; nofun), if_neg (by rw [committed]; nofun), State.session_reevaluate sound apart]

/-! ### Records written and read -/

theorem readCfgWrite_global {record : List Byte} (b : Byte) (length : record.length = 15) :
    readCfgWrite (0 :: b :: record) = some (.global, record) := if_pos ⟨rfl, length⟩

theorem readCfgWrite_point {record : List Byte} (b : Byte) (length : record.length = 16) :
    readCfgWrite (1 :: b :: record) = some (.point b, record) := by
  rw [readCfgWrite, if_neg (by rw [length]; omega), if_pos ⟨rfl, length⟩]

theorem readCfgWrite_eq_none {payload : List Byte}
    (h : ∀ selector i bytes, payload = selector :: i :: bytes →
      ¬ (selector = 0 ∧ bytes.length = 15) ∧ ¬ (selector = 1 ∧ bytes.length = 16)) :
    readCfgWrite payload = none := by
  unfold readCfgWrite
  split
  next selector i bytes =>
    obtain ⟨notGlobal, notPoint⟩ := h selector i bytes rfl
    rw [if_neg notGlobal, if_neg notPoint]
  next => rfl

theorem readCfgRead_eq_none {payload : List Byte}
    (h : ∀ i x n, payload = [i, x, n] → 2 ≤ i.toNat ∨ 2 ≤ x.toNat) : readCfgRead payload = none := by
  unfold readCfgRead
  split
  next i x n => exact if_pos (h i x n rfl)
  next => rfl

section
variable {s : State} {record : List Byte} (b : Byte) (config : s.cu.mode = .config)
include config

theorem serveCfgWrite_global {g : GlobalCfg} (length : record.length = 15) (read : readGlobal record = .ok g) :
    serveCfgWrite (0 :: b :: record) s = ⟨s.putStaging { s.cu.staging with global := g }, .ok, .nothing⟩ := by
  rw [serveCfgWrite, readCfgWrite_global b length]
  simp only [config, reduceCtorEq, if_false, read]

theorem serveCfgWrite_badGlobal {code : Nat} (length : record.length = 15) (read : readGlobal record = .error code) :
    serveCfgWrite (0 :: b :: record) s = ⟨s, .outOfRange, .fieldCode code⟩ := by
  rw [serveCfgWrite, readCfgWrite_global b length]
  simp only [config, reduceCtorEq, if_false, read]

theorem serveCfgWrite_point {p : Fin 64} {c : PointCfg} (length : record.length = 16) (at_ : pointOf b = some p)
    (read : readPointRecord record = .ok c) :
    serveCfgWrite (1 :: b :: record) s =
      ⟨s.putStaging { s.cu.staging with points := s.cu.staging.points.put p c }, .ok, .nothing⟩ := by
  rw [serveCfgWrite, readCfgWrite_point b length]
  simp only [config, reduceCtorEq, if_false, at_, read]

theorem serveCfgWrite_badPoint {p : Fin 64} {code : Nat} (length : record.length = 16) (at_ : pointOf b = some p)
    (read : readPointRecord record = .error code) :
    serveCfgWrite (1 :: b :: record) s = ⟨s, .outOfRange, .fieldCode code⟩ := by
  rw [serveCfgWrite, readCfgWrite_point b length]
  simp only [config, reduceCtorEq, if_false, at_, read]

end

theorem serveCfgWrite_operate {s : State} {payload : List Byte} {found : CfgTarget × List Byte}
    (operate : s.cu.mode = .operate) (read : readCfgWrite payload = some found) :
    serveCfgWrite payload s = s.refuse .wrongMode := by
  rw [serveCfgWrite, read]
  exact if_pos operate

/-- The field ranges of a global record with that of the post count, which every byte is in. -/
theorem firstBad_globalRanges {record : List Byte} (length : record.length = 15) :
    firstBad (rangeChecks 0 (globalRanges ++ [(0, 255)]) record) = firstBad (rangeChecks 0 globalRanges record) :=
  match record, length with
  | [_, _, _, _, _, _, _, _, _, _, _, _, _, _, _], _ => by
    simp only [globalRanges, List.cons_append, List.nil_append, rangeChecks, firstBad, inRange_of_byte, if_true]

theorem readGlobal_of_unfit {record : List Byte} {i : Nat} (length : record.length = 15)
    (before : ∀ j < i, FieldFits (globalRanges ++ [(0, 255)]) record j)
    (bad : ¬ FieldFits (globalRanges ++ [(0, 255)]) record i) : readGlobal record = .error i := by
  rw [readGlobal_eq length, ← firstBad_globalRanges length, firstBad_rangeChecks 0 before bad, Nat.zero_add]

theorem readPointRecord_of_unfit {record : List Byte} {i : Nat} (length : record.length = 16)
    (before : ∀ j < i, FieldFits pointRanges record j) (bad : ¬ FieldFits pointRanges record i) :
    readPointRecord record = .error i := by
  rw [readPointRecord_eq length, firstBad_rangeChecks 0 before bad, Nat.zero_add]

theorem exists_pointOf {b : Byte} (below : b.toNat < 64) : ∃ p, pointOf b = some p :=
  ⟨⟨b.toNat, below⟩, pointOf_of_val rfl⟩

/-- Settles O51: each clause is a branch of the services of CFG_WRITE and CFG_READ. -/
theorem configurationRecordsAreWrittenAndRead : Obligations.ConfigurationRecordsAreWrittenAndRead := by
  intro tag b payload record s h
  dsimp only
  have written : ∀ {bytes : List Byte} {r : Result} {f : ReplyFields}, serveCfgWrite bytes s = ⟨s, r, f⟩ →
      exec (.cfgWrite .ml tag bytes) s = .next (s.replied .ml ⟨0x71, tag, r, f⟩) :=
    fun served => exec_of_unchanged (kind := .cfgWrite) rfl nofun h served
  have staged : ∀ {bytes : List Byte} {i : Image}, serveCfgWrite bytes s = ⟨s.putStaging i, .ok, .nothing⟩ →
      exec (.cfgWrite .ml tag bytes) s = .next ((s.putStaging i).replied .ml ⟨0x71, tag, .ok, .nothing⟩) :=
    fun served => exec_of_serveKind (kind := .cfgWrite) rfl nofun h served (.inr ⟨rfl, rfl⟩)
  have read : ∀ {bytes : List Byte} {r : Result} {f : ReplyFields}, serveCfgRead bytes s = ⟨s, r, f⟩ →
      exec (.cfgRead .ml tag bytes) s = .next (s.replied .ml ⟨0x72, tag, r, f⟩) :=
    fun served => exec_of_unchanged (kind := .cfgRead) rfl nofun h served
  refine ⟨fun misfit => written ?_, fun length => ⟨fun operate => written ?_, fun i config before bad => written ?_⟩,
    fun length => ⟨fun operate => written ?_, fun config above => written ?_, fun i config below before bad =>
      written ?_⟩, fun g config fits => staged ?_, fun p c config at_ fits => staged ?_, fun misfit => read ?_, ?_⟩
  · rw [serveCfgWrite, readCfgWrite_eq_none misfit]
    rfl
  · exact serveCfgWrite_operate operate (readCfgWrite_global b length)
  · exact serveCfgWrite_badGlobal b config length (readGlobal_of_unfit length before bad)
  · exact serveCfgWrite_operate operate (readCfgWrite_point b length)
  · rw [serveCfgWrite, readCfgWrite_point b length]
    simp only [config, reduceCtorEq, if_false, pointOf_eq_none above]
    rfl
  · obtain ⟨p, at_⟩ := exists_pointOf below
    exact serveCfgWrite_badPoint b config length at_ (readPointRecord_of_unfit length before bad)
  · exact serveCfgWrite_global b config (length_globalBytes g) (readGlobal_globalBytes fits)
  · exact serveCfgWrite_point b config (length_pointBytes c) (pointOf_of_val at_) (readPointRecord_pointBytes fits)
  · rw [serveCfgRead, readCfgRead_eq_none misfit]
    rfl
  · intro code image listed
    simp only [List.mem_cons, Prod.mk.injEq, List.not_mem_nil, or_false] at listed
    obtain ⟨name, named, readName⟩ : ∃ name : ImageName, s.cu.image name = image ∧
        ∀ selector : Byte, selector.toNat ≤ 1 → readCfgRead [code, selector, b] =
          some (name, if selector = 0 then .global else .point b, b) := by
      obtain ⟨rfl, rfl⟩ | ⟨rfl, rfl⟩ := listed
      · exact ⟨.active, rfl, fun _ few => if_neg (not_or.mpr ⟨nofun, Nat.not_lt.mpr few⟩)⟩
      · exact ⟨.staging, rfl, fun _ few => if_neg (not_or.mpr ⟨nofun, Nat.not_lt.mpr few⟩)⟩
    refine ⟨⟨Config.globalIndexByte b, read ?_⟩, fun above => read ?_, fun p at_ => read ?_⟩
    · rw [serveCfgRead, readName 0 (by decide)]
      simp only [if_true, named]
    · rw [serveCfgRead, readName 1 (by decide)]
      simp only [show ¬ (1 : Byte) = 0 from nofun, if_false, pointOf_eq_none above]
      rfl
    · rw [serveCfgRead, readName 1 (by decide)]
      simp only [show ¬ (1 : Byte) = 0 from nofun, if_false, pointOf_of_val at_, named]

end Sys2Proof.Machine

/-! JOIN, LEAVE, the DEGRADED and the lost beat, and the end of the exclusion hold (R69, R70, R79 to R86). -/

namespace Sys2Proof.Machine

section
variable {s t : State}

theorem State.replies_replied (link : ReqLink) (r : Reply) :
    ((t.replied link r).link link.link).replies = (t.link link.link).replies ++ [r] := by
  rw [State.replied, State.link_putLink_self]

theorem State.SameBase.replies_replied (h : s.SameBase t) (link : ReqLink) (r : Reply) :
    ((t.replied link r).link link.link).replies = (s.link link.link).replies ++ [r] := by
  rw [State.replies_replied link r, h.link]

/-! ### LEAVE -/

theorem serveLeave_of_joined {l : Lane} (joined : (s.laneState l).joined = true) :
    serveLeave l [] s = ⟨s.moveLane l .down .left, .ok, .nothing⟩ := by
  rw [serveLeave, readNothing]
  exact if_pos joined

/-- An accepted LEAVE taken at once: the move, then its reply. -/
theorem exec_leave {l : Lane} (tag : Byte) (h : s.TakesAtOnce (.lane l)) (joined : (s.laneState l).joined = true) :
    exec (.leave (.lane l) tag []) s =
      .next ((s.moveLane l .down .left).replied (.lane l) ⟨0x21, tag, .ok, .nothing⟩) :=
  exec_of_lane (kind := .leave) rfl nofun h (serveLeave_of_joined joined)

/-- Settles O29: an accepted LEAVE is a departure with its reply. -/
theorem leaveTakesTheLaneDown : Obligations.LeaveTakesTheLaneDown := by
  intro l tag payload s
  refine ⟨fun h => exec_of_unchanged (kind := .leave) rfl nofun h rfl, fun h => ⟨fun long => ?_, fun apart => ?_,
    fun joined => ?_⟩⟩
  · refine exec_of_lane (kind := .leave) rfl nofun h ?_
    rw [serveKind, serveLeave, readNothing_eq_none long]
    rfl
  · refine exec_of_lane (kind := .leave) rfl nofun h ?_
    simp [serveKind, serveLeave, readNothing, apart, State.refuse]
  · exact ⟨_, exec_leave tag h joined,
      s.moveLane_hasDeparted l joined (.inl rfl) (by simp), (s.moveLane_base l _ _).cu,
      (s.moveLane_base l _ _).replies_replied _ _⟩

/-! ### Departures by DEGRADED and by a lost beat -/

theorem State.depart_of_joined {l : Lane} (cause : LaneCause) (joined : (s.laneState l).joined = true) :
    s.depart l cause = s.moveLane l (if s.laneState l = .member then .excluded else .down) cause := by
  unfold State.depart
  obtain state | state := LaneState.joined_iff.mp joined <;> simp [state]

theorem State.depart_of_apart {l : Lane} (cause : LaneCause) (apart : (s.laneState l).joined = false) :
    s.depart l cause = s := by
  unfold State.depart
  split
  next probation => rw [probation] at apart; cases apart
  next member => rw [member] at apart; cases apart
  next => rfl

theorem State.depart_hasDeparted {l : Lane} {cause : LaneCause} (joined : (s.laneState l).joined = true)
    (other : ¬ (cause = .miscompare ∨ cause = .missed)) :
    s.HasDeparted l (if s.laneState l = .member then .excluded else .down) cause (s.depart l cause) := by
  rw [s.depart_of_joined cause joined]
  refine s.moveLane_hasDeparted l joined ?_ other
  split
  · exact .inr rfl
  · exact .inl rfl

/-- The entry of a lane that has gone DOWN or EXCLUDED is not touched behind its change. -/
theorem State.lane_moveLane_of_apart {l : Lane} {new : LaneState} (cause : LaneCause) (apart : new.joined = false) :
    (s.moveLane l new cause).lane l = (s.lane l).entered s.time s.global.exclusionHold new cause := by
  obtain ⟨entry, -⟩ := (s.moveLane_follows l new cause).apart l (by rwa [State.laneState_announceChange, if_pos rfl])
  rw [entry, State.lane_announceChange, if_pos rfl]

theorem State.beatSeq_depart (l : Lane) (cause : LaneCause) :
    ((s.depart l cause).lane l).beatSeq = (s.lane l).beatSeq := by
  by_cases joined : (s.laneState l).joined = true
  · rw [s.depart_of_joined cause joined]
    split
    · rw [State.lane_moveLane_of_apart cause rfl]; rfl
    · rw [State.lane_moveLane_of_apart cause rfl]; rfl
  · rw [State.depart_of_apart cause ((Bool.not_eq_true _).mp joined)]

/-- A beat sequence recorded behind a departure leaves what the departure has taken and told. -/
theorem State.HasDeparted.recordBeat {l : Lane} {new : LaneState} {cause : LaneCause} (h : s.HasDeparted l new cause t)
    (q : Byte) : s.HasDeparted l new cause (t.putLane l { t.lane l with beatSeq := some q }) := by
  have states := t.laneState_counts (l := l) (e := { t.lane l with beatSeq := some q }) rfl
  obtain ⟨⟨⟨state, fields⟩, votes, authority, box⟩, told, records⟩ := h
  refine ⟨⟨⟨(states l).trans state, ?_⟩, votes, authority, box⟩, fun m joined => told m ?_, records⟩
  · rw [State.lane_putLane_self]
    exact fields
  · rwa [states m] at joined

/-- The beat's effect on the lane, the sequence recorded, and the STATE reply of what is left. -/
theorem serveBeat_degraded (l : Lane) (q : Byte) (s : State) :
    serveBeat l [q, 1] s =
      let t := (s.depart l .selfReported).putLane l { (s.depart l .selfReported).lane l with beatSeq := some q }
      ⟨t, .ok, .state (t.stateReport l (beatGap (s.lane l).beatSeq q))⟩ := rfl

theorem timerDue_eq {timer : Option Time} {d now : Time} (running : timer = some d) :
    timerDue now timer = timeReached now d := by
  rw [running]
  rfl

/-- Settles O31: a DEGRADED beat and a lost beat are departures where the lane is joined. -/
theorem beatLossDepartsTheLane : Obligations.BeatLossDepartsTheLane := by
  intro l s
  dsimp only
  refine ⟨fun tag q h => ⟨fun joined => ?_, fun apart => ?_⟩, fun d high running => ⟨fun reached joined => ?_,
    fun none' => ?_⟩⟩
  · have base := (s.depart_base l .selfReported).trans
      (State.putLane_base _ l { (s.depart l .selfReported).lane l with beatSeq := some q })
    exact ⟨_, exec_of_lane (kind := .beat) rfl nofun h (serveBeat_degraded l q s),
      (State.depart_hasDeparted joined (by simp)).recordBeat q, by rw [State.lane_putLane_self], base.cu, base.lu⟩
  · have served := serveBeat_degraded l q s
    rw [State.depart_of_apart _ apart] at served
    exact exec_of_lane (kind := .beat) rfl nofun h served
  · refine ⟨s.expireBeat l, State.whenPowered_of_high (State.expireBeat l) high, ?_⟩
    rw [State.expireBeat, timerDue_eq running, if_pos reached]
    exact ⟨State.depart_hasDeparted joined (by simp), State.beatSeq_depart l _⟩
  · refine (State.whenPowered_of_high (State.expireBeat l) high).trans (congrArg Host.Outcome.next ?_)
    rw [State.expireBeat, timerDue_eq running]
    obtain notReached | apart := none'
    · rw [notReached]
      rfl
    · rw [State.depart_of_apart _ apart, ite_self]

/-! ### The end of the hold -/

theorem State.members_remove_of_not_member {l : Lane} (was : s.laneState l ≠ .member) : s.members.remove l = s.members := by
  refine PerLane.eq_of_get fun m => ?_
  rw [LaneSet.get_remove]
  split
  next same => rw [same, State.get_members, beq_eq_false_iff_ne.mpr was]
  next => rfl

/-- The notice queue of a lane that has gone DOWN is empty behind the move (R144). -/
theorem State.box_moveLane_down (l : Lane) (cause : LaneCause) :
    (s.moveLane l .down cause).nu.get l = ⟨[], 0, (s.nu.get l).seq⟩ := by
  obtain ⟨-, box⟩ := (s.moveLane_follows l .down cause).apart l (by rw [State.laneState_announceChange, if_pos rfl]; rfl)
  rw [box, State.announceChange_own_box s l .down cause (.inl rfl)]
  rfl

/-- Settles O32: the end of the hold is a change of an EXCLUDED lane, which takes no vote, authority or restart vote. -/
theorem holdExpiryMakesTheLaneDown : Obligations.HoldExpiryMakesTheLaneDown := by
  intro l d s high running
  refine ⟨fun reached excluded => ?_, fun not => ?_⟩
  · have notMember : s.laneState l ≠ .member := by rw [excluded]; nofun
    have expired : s.expireHold l = s.moveLane l .down .holdEnded :=
      if_pos ⟨excluded, (timerDue_eq running).trans reached⟩
    have changed := s.moveLane_of_not_member l .down .holdEnded notMember
    have base := s.moveLane_base l .down .holdEnded
    have told := s.moveLane_hasTold l .down .holdEnded
    rw [if_neg nofun, excluded, State.members_remove_of_not_member notMember] at told
    have box := State.box_moveLane_down (s := s) l .holdEnded
    obtain ⟨au, collection⟩ := s.changeLane_keeps_authority l .down .holdEnded notMember
    obtain ⟨-, -, ve⟩ := s.changeLane_spec l .down .holdEnded
    refine ⟨s.expireHold l, State.whenPowered_of_high (State.expireHold l) high, ?_⟩
    rw [expired]
    refine ⟨State.lane_moveLane_of_apart _ rfl, fun m other => ?_, by rw [box], by rw [box], told, ?_, ?_, base.cu, base.lu,
      ?_⟩
    · rw [changed, State.lane_changeLane, if_neg other]
    · rw [changed, ve, excluded]
      rfl
    · rw [changed, au]
    · rw [changed, collection]
  · refine (State.whenPowered_of_high (State.expireHold l) high).trans (congrArg Host.Outcome.next (if_neg ?_))
    rintro ⟨excluded, due⟩
    rw [timerDue_eq running] at due
    obtain notReached | other := not
    · rw [notReached] at due
      cases due
    · exact other excluded

/-! ### JOIN -/

/-- What JOIN makes of a lane (R70). -/
def State.joinState (s : State) : LaneState := if s.memberCount = 0 then .member else .probation

/-- The cause of the change that JOIN makes. -/
def State.joinCause (s : State) : LaneCause := if s.memberCount = 0 then .founded else .joined

/-- The entry of a lane with its counts set afresh, before JOIN changes its state. -/
def State.freshEntry (l : Lane) (s : State) : LaneEntry :=
  { s.lane l with strikes := 0, cleanRun := 0, credit := 0, beatSeq := none, beatDeadline := some s.beatDeadline }

theorem State.acceptJoin_eq (l : Lane) :
    s.acceptJoin l = ⟨(s.putLane l (s.freshEntry l)).moveLane l s.joinState s.joinCause,
      if s.memberCount = 0 then .founded else .probation, .nothing⟩ := by
  unfold State.acceptJoin State.joinState State.joinCause
  by_cases founds : s.memberCount = 0
  · rw [founds]
    rfl
  · simp only [beq_eq_false_iff_ne.mpr founds, if_neg founds]
    rfl

theorem serveJoin_accepted {l : Lane} (operate : s.cu.mode = .operate) (down : s.laneState l = .down)
    (run : (s.link l.link).state = .run) : serveJoin l (be32 s.cu.digest) s = s.acceptJoin l := by
  have down' : (s.lane l).state = .down := down
  simp [serveJoin, operate, down', run]

/-- An accepted JOIN taken at once. -/
theorem exec_join {l : Lane} (tag : Byte) (h : s.TakesAtOnce (.lane l)) (operate : s.cu.mode = .operate)
    (down : s.laneState l = .down) (run : (s.link l.link).state = .run) :
    exec (.join (.lane l) tag (be32 s.cu.digest)) s =
      .next (((s.putLane l (s.freshEntry l)).moveLane l s.joinState s.joinCause).replied (.lane l)
        ⟨0x20, tag, if s.memberCount = 0 then .founded else .probation, .nothing⟩) :=
  exec_of_lane (kind := .join) rfl nofun h ((serveJoin_accepted operate down run).trans (s.acceptJoin_eq l))

/-- A lane that comes in while the safe condition holds hands nothing to the drive unit (R108). -/
theorem State.changeLane_du_of_safe (l : Lane) (new : LaneState) (cause : LaneCause) (safe : s.sc.flag = true) :
    (s.changeLane l new cause).du = s.du := by
  obtain ⟨u, result, -, du, flag, -⟩ := s.changeLane_reevaluates l new cause
  obtain ⟨-, -, -, -, -, -, -, handed⟩ := u.reevaluate_spec (some l)
  rw [result, handed, if_neg, du]
  rintro ⟨-, clear⟩
  rw [flag, safe] at clear
  cases clear

/-- What an accepted JOIN leaves (R68, R70). -/
theorem State.joined_spec (l : Lane) (down : s.laneState l = .down)
    (joined : t = (s.putLane l (s.freshEntry l)).moveLane l s.joinState s.joinCause) :
    t.lane l =
      { state := s.joinState, strikes := 0, cleanRun := 0, credit := 0, beatDeadline := some s.beatDeadline,
        beatSeq := none, holdDeadline := none, lastCause := s.joinCause } ∧
    (∀ m, m ≠ l → t.lane m = s.lane m) ∧ t.ve = s.ve ∧ s.SameBase t ∧ t.au = s.au ∧
    t.sc.collection = s.sc.collection ∧ (s.sc.flag = true → t.du = s.du) ∧
    s.HasTold (.lane l .down s.joinState s.joinCause t.members) (some l) (.lane .down s.joinState s.joinCause 0) t := by
  have same : (s.freshEntry l).state = s.laneState l := rfl
  have told := State.moveLane_putLane_hasTold same s.joinState s.joinCause
  have kept := State.laneState_putLane_of_same same
  rw [← joined, down] at told
  have notMember : (s.putLane l (s.freshEntry l)).laneState l ≠ .member := by rw [kept, down]; nofun
  rw [State.moveLane_of_not_member _ l _ _ notMember] at joined
  obtain ⟨base, -, ve⟩ := (s.putLane l (s.freshEntry l)).changeLane_spec l s.joinState s.joinCause
  obtain ⟨au, collection⟩ := (s.putLane l (s.freshEntry l)).changeLane_keeps_authority l s.joinState s.joinCause notMember
  have lanes : ∀ m, t.lane m = if m = l then (s.freshEntry l).entered s.time s.global.exclusionHold s.joinState s.joinCause
      else s.lane m := by
    intro m
    rw [joined, State.lane_changeLane, State.lane_putLane_self, State.lane_putLane]
    split <;> rfl
  have members : t.members = if s.joinState = .member then s.members.insert l else s.members.remove l := by
    rw [← s.members_putLane l { s.lane l with state := s.joinState }]
    refine State.members_of_states fun m => ?_
    rw [State.laneState, lanes, State.laneState_putLane, apply_ite LaneEntry.state, LaneEntry.entered_state]
    rfl
  refine ⟨?_, fun m other => by rw [lanes, if_neg other], ?_, ?_, ?_, ?_, fun safe => ?_, ?_⟩
  · rw [lanes, if_pos rfl]
    unfold State.joinState State.joinCause
    split <;> rfl
  · rw [joined, ve, kept, down]
    rfl
  · rw [joined]
    exact (s.putLane_base l _).trans base
  · rw [joined, au]
    rfl
  · rw [joined, collection]
    rfl
  · rw [joined]
    exact State.changeLane_du_of_safe l _ _ safe
  · rw [members]
    exact told

/-- Settles O28: the refusals are the branches of the service of JOIN; an accepted one is a change of a lane DOWN. -/
theorem joinIsJudgedAndTaken : Obligations.JoinIsJudgedAndTaken := by
  intro l tag payload digest s
  dsimp only
  refine ⟨fun h => exec_of_unchanged (kind := .join) rfl nofun h rfl, fun h => ?_⟩
  have refused : ∀ {bytes : List Byte} {r : Result} {f : ReplyFields}, serveJoin l bytes s = ⟨s, r, f⟩ →
      exec (.join (.lane l) tag bytes) s = .next (s.replied (.lane l) ⟨0x20, tag, r, f⟩) :=
    fun served => exec_of_lane (kind := .join) rfl nofun h served
  refine ⟨fun long => refused ?_, fun config => refused ?_, fun operate => ⟨fun absent => refused ?_,
    fun d excluded running => refused ?_, fun joined => refused ?_, fun down ready => refused ?_,
    fun down run other => refused ?_, fun down run same => ?_⟩⟩
  · rw [serveJoin, readDigest_eq_none long]
    rfl
  · simp [serveJoin, config, State.refuse]
  · have state : (s.lane l).state = .absent := absent
    simp [serveJoin, operate, state, State.refuse]
  · have state : (s.lane l).state = .excluded := excluded
    simp only [serveJoin, readDigest_be32, operate, state, running, Option.getD_some, remainingUnits_eq, reduceCtorEq,
      if_false]
  · obtain state | state := LaneState.joined_iff.mp joined
    · have state' : (s.lane l).state = .probation := state
      simp [serveJoin, operate, state', State.refuse]
    · have state' : (s.lane l).state = .member := state
      simp [serveJoin, operate, state', State.refuse]
  · have state : (s.lane l).state = .down := down
    simp [serveJoin, operate, state, ready, State.refuse]
  · have state : (s.lane l).state = .down := down
    simp [serveJoin, operate, state, run, other]
  · subst same
    obtain ⟨entry, others, ve, base, au, collection, du, told⟩ := State.joined_spec l down rfl
    exact ⟨_, exec_join tag h operate down run, entry, others, ve, base.cu, au, collection, du, told,
      base.replies_replied _ _⟩

end

end Sys2Proof.Machine

/-! What a change of a lane tells and records, in its order: the LANE notice and record, then those of authority, then
those of the safe condition, then the demotions (R68, R75, R94, R99, R107, R108). -/

namespace Sys2Proof.Machine

/-! ### Notices and records on the way -/

/-- How many JOURNAL_FROZEN notices a journal may still make before it is re-armed: the one of its freezing, or none. -/
def Journal.spare (j : Journal) : Nat := if j.state = .frozen then 0 else 1

theorem Journal.spare_le (j : Journal) : j.spare ≤ 1 := by
  unfold Journal.spare
  split <;> omega

/-- A record sends a lane no notice but that of the freezing, which a journal makes once (R154). -/
theorem State.submit_box (s : State) (sub : Option Lane) (b : RecordBody) (m : Lane) :
    ∃ ns, (s.submit sub b).nu.get m = (s.nu.get m).pushAll ns ∧
      ns.length + (s.submit sub b).ij.spare ≤ s.ij.spare := by
  have after := s.submit_ij sub b
  by_cases frozen : s.ij.state = .frozen
  · refine ⟨[], by rw [s.submit_of_still sub b (.inl frozen)]; rfl, ?_⟩
    rw [after, Journal.submit_of_frozen _ _ _ _ _ frozen]
    exact (Nat.zero_add _).le
  · have before : s.ij.spare = 1 := if_neg frozen
    by_cases freezes : (s.ij.submit s.global.triggers s.global.postCount s.time sub b).state = .frozen
    · have none' : (s.submit sub b).ij.spare = 0 := if_pos (by rw [after]; exact freezes)
      obtain ⟨nu, result, boxes⟩ := s.submit_spec sub b
      rw [none', before, result]
      obtain same | ⟨-, n, sent⟩ := boxes m
      · exact ⟨[], same, Nat.zero_le 1⟩
      · exact ⟨[n], sent, le_rfl⟩
    · refine ⟨[], by rw [s.submit_of_still sub b (.inr freezes)]; rfl, ?_⟩
      rw [before]
      exact (Nat.zero_add _).trans_le (Journal.spare_le _)

/-- On the way from `s` to `t` these records are made, and a lane joined in `t` is sent at most `count` notices besides
that of the journal's freezing. -/
structure State.Tells (count : Nat) (made : List (Option Lane × RecordBody)) (s t : State) : Prop where
  base : s.SameBase t
  boxes : ∀ m, (t.laneState m).joined = true →
    ∃ ns, t.nu.get m = (s.nu.get m).pushAll ns ∧ ns.length + t.ij.spare ≤ s.ij.spare + count
  journal : t.ij = s.ij.submitAll s.global.triggers s.global.postCount s.time made

section
variable {count : Nat} {made : List (Option Lane × RecordBody)} {s t u : State}

/-- Where neither lanes, notices nor journal change. -/
theorem State.Tells.silent (h : s.Tells count made t) (base : t.SameBase u) (lm : u.lm = t.lm) (nu : u.nu = t.nu)
    (ij : u.ij = t.ij) : s.Tells count made u where
  base := h.base.trans base
  boxes m joined := by
    rw [nu, ij]
    exact h.boxes m (by rwa [State.laneState_of_lm lm] at joined)
  journal := ij.trans h.journal

theorem State.Tells.notify (h : s.Tells count made t) (r : LaneSet) (n : Notice) :
    s.Tells (count + 1) made (t.notify r n) where
  base := h.base.trans (t.notify_base r n)
  boxes m joined := by
    obtain ⟨ns, box, few⟩ := h.boxes m joined
    rw [State.get_notify, box]
    split
    · refine ⟨ns ++ [n], by rw [NoticeBox.pushAll_append]; rfl, ?_⟩
      rw [List.length_append, List.length_singleton]
      change ns.length + 1 + t.ij.spare ≤ _
      omega
    · exact ⟨ns, rfl, few.trans (Nat.le_succ _)⟩
  journal := h.journal

theorem State.Tells.submit (h : s.Tells count made t) (sub : Option Lane) (b : RecordBody) :
    s.Tells count (made ++ [(sub, b)]) (t.submit sub b) where
  base := h.base.trans (t.submit_base sub b)
  boxes m joined := by
    obtain ⟨ns, box, few⟩ := h.boxes m (by rwa [State.submit_laneState] at joined)
    obtain ⟨ms, box', few'⟩ := t.submit_box sub b m
    refine ⟨ns ++ ms, by rw [box', box, NoticeBox.pushAll_append], ?_⟩
    rw [List.length_append]
    omega
  journal := by
    rw [State.submit_ij, h.base.global, h.base.time, h.journal, Journal.submitAll_append]
    rfl

theorem State.Tells.reportSafe (h : s.Tells count made t) (d : SafeDirection) (sub : Option Lane) :
    s.Tells (count + 1) (made ++ [(sub, .safe d t.memberCount t.global.minMembers)]) (t.reportSafe d sub) :=
  (h.notify _ _).submit _ _

/-- A notice sent while there is room is among the new ones of the queue. -/
theorem NoticeBox.mem_drop_pushAll {b : NoticeBox} (before after : List Notice) (n : Notice)
    (room : b.queue.length + before.length < 16) :
    n ∈ ((b.pushAll (before ++ n :: after)).queue).drop b.queue.length := by
  have sent : ∀ (before : List Notice) (b : NoticeBox), b.queue.length + before.length < 16 →
      ((b.pushAll before).push n).queue = b.queue ++ before ++ [n] := by
    intro before
    induction before with
    | nil =>
      intro b room
      rw [List.append_nil]
      exact congrArg NoticeBox.queue (NoticeBox.push_of_room n room)
    | cons x before ih =>
      intro b room
      rw [List.length_cons] at room
      rw [NoticeBox.pushAll_cons, NoticeBox.push_of_room x (by omega), ih _ (by simp; omega)]
      simp
  obtain ⟨rest, more⟩ := ((b.pushAll before).push n).queue_isPrefix_pushAll after
  rw [NoticeBox.pushAll_append, NoticeBox.pushAll_cons, ← more, sent before b room, List.append_assoc, List.append_assoc,
    List.drop_left]
  simp

/-- The record behind `made` in a run is held where the journal is not FROZEN at the end. -/
theorem Journal.mem_submitAll {j : Journal} (m : TriggerMask) (k : Nat) (now : Time)
    (made more : List (Option Lane × RecordBody)) (sub : Option Lane) (b : RecordBody)
    (few : (made ++ (sub, b) :: more).length ≤ 256)
    (running : (j.submitAll m k now (made ++ (sub, b) :: more)).state ≠ .frozen) :
    ⟨j.counter + BitVec.ofNat 32 made.length, now, sub, b⟩ ∈ (j.submitAll m k now (made ++ (sub, b) :: more)).ring := by
  obtain ⟨stored, -⟩ := Journal.submitAll_stores m k now _ j few running
  refine stored.subset (List.mem_mapIdx.mpr ⟨made.length, by simp, ?_⟩)
  simp

/-- HasReported, of a notice and a record made behind at most two other notices, and of what follows them. -/
theorem State.Tells.hasReported (h : s.Tells count made u) (few : count ≤ 2) (short : made.length ≤ 100) {k : Nat}
    {n : Notice} {sub : Option Lane} {b : RecordBody} (least : k ≤ 100)
    (follows : ((u.notify u.joined n).submit sub b).Follows k t) : s.HasReported made.length n sub b t := by
  constructor
  · intro m joined room
    have before := follows.joined_before joined
    rw [State.submit_laneState] at before
    have before' : (u.laneState m).joined = true := before
    obtain ⟨after, box⟩ := follows.told m joined
    obtain ⟨frozen, box', -⟩ := (u.notify u.joined n).submit_box sub b m
    obtain ⟨ns, box'', sent⟩ := h.boxes m before'
    have pushed : (u.notify u.joined n).nu.get m = (u.nu.get m).push n := by
      rw [State.get_notify, State.get_joined, before']
      rfl
    have all : t.nu.get m = (s.nu.get m).pushAll (ns ++ n :: (frozen ++ after)) := by
      rw [box, box', pushed, box'', NoticeBox.pushAll_append, NoticeBox.pushAll_cons, NoticeBox.pushAll_append]
    rw [all]
    have := s.ij.spare_le
    exact NoticeBox.mem_drop_pushAll ns _ n (by omega)
  · intro running
    obtain ⟨more, length, journal⟩ := follows.records
    have told := (h.notify u.joined n).submit sub b
    have whole : t.ij = s.ij.submitAll s.global.triggers s.global.postCount s.time (made ++ (sub, b) :: more) := by
      rw [journal, told.base.global, told.base.time, told.journal, ← Journal.submitAll_append, List.append_assoc]
      rfl
    rw [whole] at running ⊢
    refine Journal.mem_submitAll _ _ _ _ _ _ _ ?_ running
    rw [List.length_append, List.length_cons]
    omega

/-- The first half of a change: its LANE notice and its LANE record. -/
theorem State.announceChange_tells (s : State) (l : Lane) (new : LaneState) (cause : LaneCause) :
    s.Tells 1 [(some l, .lane (s.laneState l) new cause (s.lane l).strikes)] (s.announceChange l new cause) := by
  obtain ⟨base, -, -, -, -, -, ij⟩ := (s.enterLane l new cause).laneNotices_spec l (s.laneState l) new cause
  have noticed : s.Tells 1 [] ((s.enterLane l new cause).laneNotices l (s.laneState l) new cause) :=
    { base := (s.enterLane_base l new cause).trans base
      boxes := fun m joined => by
        rw [State.laneState_noticed] at joined
        have other : new.joined = false → m ≠ l := by
          rintro apart rfl
          rw [if_pos rfl, apart] at joined
          cases joined
        rw [State.laneNotices_box_of_joined _ l new cause _ (by rwa [State.laneState_enterLane]) other,
          State.enterLane_nu, ij, State.enterLane_ij]
        exact ⟨[_], rfl, (Nat.add_comm _ _).le⟩
      journal := ij.trans (s.enterLane_ij l new cause) }
  exact noticed.submit _ _

end

/-! ### The re-evaluation of the safe condition (Table 6.1) -/

section
variable {s : State} {l : Lane}

theorem State.reevaluate_enters (sub : Option Lane) (should : s.shouldBeSafe = true) (clear : s.sc.flag = false) :
    s.reevaluate sub = (s.setSafe true).handSafeValues.reportSafe .entered sub := by
  unfold State.reevaluate
  rw [should, clear]
  rfl

theorem State.reevaluate_exits (sub : Option Lane) (should : s.shouldBeSafe = false) (set : s.sc.flag = true) :
    s.reevaluate sub = (s.setSafe false).reportSafe .exited sub := by
  unfold State.reevaluate
  rw [should, set]
  rfl

theorem LaneSet.count_remove {x : LaneSet} (present : x.get l = true) : (x.remove l).count + 1 = x.count := by
  obtain ⟨a, b, c⟩ := x
  cases l <;> cases present <;> simp [LaneSet.remove, LaneSet.count, PerLane.set] <;> omega

theorem State.members_announceChange (new : LaneState) (cause : LaneCause) :
    (s.announceChange l new cause).members =
      if new = .member then s.members.insert l else s.members.remove l := by
  rw [← s.members_putLane l { s.lane l with state := new }]
  refine State.members_of_states fun m => ?_
  rw [State.laneState_announceChange, State.laneState_putLane]

/-- A lane that comes in or goes on as MEMBER raises the count of MEMBER lanes by one. -/
theorem State.memberCount_announceChange_in (cause : LaneCause) (was : s.laneState l ≠ .member) :
    (s.announceChange l .member cause).memberCount = s.memberCount + 1 := by
  rw [State.memberCount, State.members_announceChange, if_pos rfl]
  exact LaneSet.count_insert (by rw [State.get_members, beq_eq_false_iff_ne]; exact was)

/-- A MEMBER lane that leaves lowers the count of MEMBER lanes by one. -/
theorem State.memberCount_announceChange_out {new : LaneState} (cause : LaneCause) (was : s.laneState l = .member)
    (leaves : new ≠ .member) : (s.announceChange l new cause).memberCount + 1 = s.memberCount := by
  rw [State.memberCount, State.members_announceChange, if_neg leaves]
  exact LaneSet.count_remove (by rw [State.get_members, was]; rfl)

/-- A lane that becomes MEMBER and brings the members up to minimum members leaves the safe condition (R108). -/
theorem State.moveLane_exits (cause : LaneCause) (was : s.laneState l ≠ .member) (operate : s.cu.mode = .operate)
    (safe : s.sc.flag = true) (enough : s.global.minMembers ≤ s.memberCount + 1) :
    (s.moveLane l .member cause).sc.flag = false ∧ (s.moveLane l .member cause).sc.safeN = .high ∧
      (s.moveLane l .member cause).du = s.du ∧
      s.HasReported 1 (.safe .exited (s.memberCount + 1) s.global.minMembers) (some l)
        (.safe .exited (s.memberCount + 1) s.global.minMembers) (s.moveLane l .member cause) := by
  have stays : (s.laneState l == .member && LaneState.member != .member) = false := by simp
  have count := State.memberCount_announceChange_in (l := l) cause was
  have base := s.announceChange_base l .member cause
  have should : (s.announceChange l .member cause).shouldBeSafe = false := by
    rw [← Bool.not_eq_true, State.safeShould_iff, base.cu, base.global, count, operate]
    rintro (config | few)
    · cases config
    · omega
  have set : (s.announceChange l .member cause).sc.flag = true := by rw [State.announceChange_sc, safe]
  have changed : s.moveLane l .member cause =
      ((s.announceChange l .member cause).setSafe false).reportSafe .exited (some l) := by
    rw [s.moveLane_of_not_member l .member cause was, State.changeLane_eq, stays]
    exact State.reevaluate_exits (some l) should set
  have told := (s.announceChange_tells l .member cause).silent
    (u := (s.announceChange l .member cause).setSafe false) ⟨rfl, rfl, rfl, rfl, rfl, rfl⟩ rfl rfl rfl
  have reported := told.hasReported (n := .safe .exited (s.memberCount + 1) s.global.minMembers) (sub := some l)
    (b := .safe .exited (s.memberCount + 1) s.global.minMembers) (by omega) (by simp) (Nat.zero_le _) (.refl _)
  rw [changed]
  refine ⟨by simp, by simp [safeLevel], by simp [State.announceChange_du], ?_⟩
  rw [State.reportSafe, State.setSafe_memberCount, State.setSafe_global, count, base.global]
  exact reported

end

/-! ### Safe values handed -/

/-- One point's step of the hand-off of the safe values (R107 step 1). -/
def DriveUnit.handSafe (i : Image) (d : DriveUnit) (q : Fin 64) : DriveUnit :=
  if (i.points.at q).enabled ∧ (d.part q).status ≠ .faulted then
    d.handOff i.global.echoRetries q (i.points.at q).safe else d

theorem DriveUnit.handSafeValues_eq (i : Image) (d : DriveUnit) : d.handSafeValues i = allPoints.foldl (handSafe i) d := rfl

theorem DriveUnit.part_handSafeValues (i : Image) (d : DriveUnit) (p : Fin 64) :
    ((i.points.at p).enabled = true → (d.part p).status ≠ .faulted →
      ((d.handSafeValues i).part p).target = (i.points.at p).safe) ∧
    ((i.points.at p).enabled = false ∨ (d.part p).status = .faulted → (d.handSafeValues i).part p = d.part p) := by
  rw [handSafeValues_eq]
  have other : ∀ (d : DriveUnit) q, p ≠ q → (d.handSafe i q).part p = d.part p := by
    intro d q ne
    unfold handSafe
    split
    · obtain ⟨-, -, kept, -⟩ := d.handOff_spec i.global.echoRetries q (i.points.at q).safe
      exact kept p ne
    · rfl
  have left : ∀ (list : List (Fin 64)) (d : DriveUnit),
      (i.points.at p).enabled = false ∨ (d.part p).status = .faulted → (list.foldl (handSafe i) d).part p = d.part p := by
    intro list
    induction list with
    | nil => exact fun _ _ => rfl
    | cons q rest ih =>
      intro d apart
      have first : (d.handSafe i q).part p = d.part p := by
        by_cases same : p = q
        · subst same
          unfold handSafe
          rw [if_neg]
          rintro ⟨enabled, sound⟩
          obtain disabled | faulted := apart
          · rw [disabled] at enabled
            cases enabled
          · exact sound faulted
        · exact other d q same
      rw [List.foldl_cons, ih _ (by rwa [first]), first]
  have handed : ∀ (list : List (Fin 64)) (d : DriveUnit), (i.points.at p).enabled = true →
      (d.part p).status ≠ .faulted → p ∈ list ∨ (d.part p).target = (i.points.at p).safe →
      ((list.foldl (handSafe i) d).part p).target = (i.points.at p).safe := by
    intro list
    induction list with
    | nil => exact fun _ _ _ done => done.resolve_left List.not_mem_nil
    | cons q rest ih =>
      intro d enabled sound due
      rw [List.foldl_cons]
      by_cases same : p = q
      · subst same
        have taken : d.handSafe i p = d.handOff i.global.echoRetries p (i.points.at p).safe := if_pos ⟨enabled, sound⟩
        obtain ⟨-, -, -, target, -, -, status⟩ := d.handOff_spec i.global.echoRetries p (i.points.at p).safe
        refine ih _ enabled ?_ (.inr (by rw [taken]; exact target))
        rw [taken]
        obtain ⟨-, same⟩ | ⟨-, -, queued⟩ := status
        · rwa [same]
        · rw [queued]
          nofun
      · have kept := other d q same
        refine ih _ enabled (by rwa [kept]) ?_
        rw [kept]
        exact due.imp_left fun member => (List.mem_cons.mp member).resolve_left same
  exact ⟨fun enabled sound => handed allPoints d enabled sound (.inl (mem_allPoints p)), left allPoints d⟩

end Sys2Proof.Machine

/-! LEAVE of a MEMBER lane: succession, the safe condition, and the demotions behind the last MEMBER (R75, R99, R105,
R107, R108). -/

namespace Sys2Proof.Machine

/-! ### Demotions where the safe condition stands as it should -/

section
variable {s t u : State} {l m : Lane}

theorem State.memberCount_announceDown (cause : LaneCause) (was : s.laneState l ≠ .member) :
    (s.announceChange l .down cause).memberCount = s.memberCount := by
  rw [State.memberCount, State.members_announceChange, if_neg nofun, State.members_remove_of_not_member was]
  rfl

/-- A demotion re-evaluates a safe condition that stands as it should, so it is the lane's own change alone. -/
theorem State.demoteProbation_of_settled (settled : s.shouldBeSafe = s.sc.flag) :
    s.demoteProbation l = if s.laneState l = .probation then s.announceChange l .down .noMember else s := by
  unfold State.demoteProbation
  by_cases probation : s.laneState l = .probation
  · rw [if_pos probation, if_pos probation, State.changeLane_eq, probation]
    refine State.reevaluate_of_settled (some l) ?_
    change (s.announceChange l .down .noMember).shouldBeSafe = (s.announceChange l .down .noMember).sc.flag
    have base := s.announceChange_base l .down .noMember
    rw [State.announceChange_sc, ← settled, State.shouldBeSafe, State.shouldBeSafe, base.cu, base.global,
      State.memberCount_announceDown _ (by rw [probation]; nofun)]
  · rw [if_neg probation, if_neg probation]

/-- What a demotion leaves where the safe condition stands as it should: it stands so behind it. -/
theorem State.demoteProbation_settled (settled : s.shouldBeSafe = s.sc.flag) :
    (s.demoteProbation l).sc = s.sc ∧ (s.demoteProbation l).du = s.du ∧
      (s.demoteProbation l).shouldBeSafe = (s.demoteProbation l).sc.flag := by
  rw [State.demoteProbation_of_settled settled]
  split
  next probation =>
    have base := s.announceChange_base l .down .noMember
    refine ⟨s.announceChange_sc l _ _, s.announceChange_du l _ _, ?_⟩
    rw [State.announceChange_sc, ← settled, State.shouldBeSafe, State.shouldBeSafe, base.cu, base.global,
      State.memberCount_announceDown _ (by rw [probation]; nofun)]
  next => exact ⟨rfl, rfl, settled⟩

theorem State.demoteAll_settled (settled : s.shouldBeSafe = s.sc.flag) :
    s.demoteAll.sc = s.sc ∧ s.demoteAll.du = s.du := by
  obtain ⟨scA, duA, settledA⟩ := State.demoteProbation_settled (l := .a) settled
  obtain ⟨scB, duB, settledB⟩ := State.demoteProbation_settled (l := .b) settledA
  obtain ⟨scC, duC, -⟩ := State.demoteProbation_settled (l := .c) settledB
  exact ⟨scC.trans (scB.trans scA), duC.trans (duB.trans duA)⟩

/-- The LANE record of a demotion, where the lane is PROBATION. -/
def State.demotion (s : State) (l : Lane) : List (Option Lane × RecordBody) :=
  if s.laneState l = .probation then [(some l, .lane .probation .down .noMember (s.lane l).strikes)] else []

theorem State.demoteProbation_journal (settled : s.shouldBeSafe = s.sc.flag) :
    (s.demoteProbation l).ij =
      s.ij.submitAll s.global.triggers s.global.postCount s.time (s.demotion l) := by
  rw [State.demoteProbation_of_settled settled, State.demotion]
  split
  next probation => rw [State.announceChange_ij, probation]
  next => rfl

theorem State.lane_demoteProbation_of_ne (ne : m ≠ l) : (s.demoteProbation l).lane m = s.lane m := by
  unfold State.demoteProbation
  split
  · rw [State.lane_changeLane, if_neg ne]
  · rfl

theorem State.demotion_demoteProbation (ne : m ≠ l) : (s.demoteProbation l).demotion m = s.demotion m := by
  rw [State.demotion, State.demotion, State.laneState, State.lane_demoteProbation_of_ne ne]
  rfl

/-- The records of the demotions, in the order A, B, C. -/
theorem State.demoteAll_journal (settled : s.shouldBeSafe = s.sc.flag) :
    s.demoteAll.ij = s.ij.submitAll s.global.triggers s.global.postCount s.time
      (s.demotion .a ++ s.demotion .b ++ s.demotion .c) := by
  obtain ⟨-, -, settledA⟩ := State.demoteProbation_settled (l := .a) settled
  obtain ⟨-, -, settledB⟩ := State.demoteProbation_settled (l := .b) settledA
  have baseA := s.demoteProbation_base .a
  have baseB := baseA.trans ((s.demoteProbation .a).demoteProbation_base .b)
  rw [State.demoteAll, State.demoteProbation_journal settledB, State.demoteProbation_journal settledA,
    State.demoteProbation_journal settled, State.demotion_demoteProbation (by nofun),
    State.demotion_demoteProbation (by nofun), State.demotion_demoteProbation (by nofun), baseB.global, baseB.time,
    baseA.global, baseA.time, Journal.submitAll_append, Journal.submitAll_append]

/-- One lane's part of the demotions' records: where another lane has none, at most one stands on each side. -/
theorem State.demotions_split (ne : m ≠ l) (none' : u.demotion l = []) :
    ∃ before after : List (Option Lane × RecordBody),
      u.demotion .a ++ u.demotion .b ++ u.demotion .c = before ++ u.demotion m ++ after ∧
        before.length ≤ 1 ∧ after.length ≤ 1 := by
  have short : ∀ k, (u.demotion k).length ≤ 1 := by
    intro k
    unfold State.demotion
    split <;> simp
  cases m with
  | a =>
    refine ⟨[], u.demotion .b ++ u.demotion .c, by simp, Nat.zero_le 1, ?_⟩
    cases l with
    | a => exact absurd rfl ne
    | b => simpa [none'] using short .c
    | c => simpa [none'] using short .b
  | b => exact ⟨u.demotion .a, u.demotion .c, rfl, short .a, short .c⟩
  | c =>
    refine ⟨u.demotion .a ++ u.demotion .b, [], by simp, ?_, Nat.zero_le 1⟩
    cases l with
    | a => simpa [none'] using short .b
    | b => simpa [none'] using short .a
    | c => exact absurd rfl ne

/-! ### What a demotion takes from its lane -/

/-- What a lane has lost is kept by what follows. -/
theorem State.HasLeft.follows {new : LaneState} {cause : LaneCause} {k : Nat} (h : s.HasLeft l new cause t)
    (apart : new.joined = false) (notMember : s.laneState l ≠ .member) (follows : t.Follows k u) :
    s.HasLeft l new cause u := by
  obtain ⟨fields, votes, -, queue, lost, seq⟩ := h
  obtain ⟨entry, box⟩ := follows.apart l (by rw [fields.1, apart])
  refine ⟨?_, follows.votes l votes, fun member => absurd member notMember, ?_, ?_, ?_⟩
  · rw [State.laneState, entry]
    exact fields
  · rw [box]; exact queue
  · rw [box]; exact lost
  · rw [box]; exact seq

/-- What a PROBATION lane has lost on its way DOWN does not depend on what went before its demotion. -/
theorem State.HasLeft.before {cause : LaneCause} (h : u.HasLeft l .down cause t)
    (notMember : s.laneState l ≠ .member) (seq : (u.nu.get l).seq = (s.nu.get l).seq) :
    s.HasLeft l .down cause t := by
  obtain ⟨fields, votes, -, queue, lost, seq'⟩ := h
  exact ⟨fields, votes, fun member => absurd member notMember, queue, lost, seq'.trans seq⟩

theorem NoticeBox.pushAll_seq (ns : List Notice) (b : NoticeBox) : (b.pushAll ns).seq = b.seq := by
  induction ns generalizing b with
  | nil => rfl
  | cons n ns ih => rw [pushAll_cons, ih, push_seq]

theorem State.demoteProbation_hasLeft (probation : s.laneState l = .probation) :
    s.HasLeft l .down .noMember (s.demoteProbation l) := by
  have left := s.moveLane_hasLeft l .down .noMember (by rw [probation]; rfl) (.inl rfl)
  rw [s.moveLane_of_not_member l _ _ (by rw [probation]; nofun)] at left
  rw [State.demoteProbation, if_pos probation]
  exact left

/-- The demotion of another lane leaves a PROBATION lane as it is. -/
theorem State.demoteProbation_leaves (ne : l ≠ m) (probation : s.laneState l = .probation) :
    (s.demoteProbation m).laneState l = .probation ∧
      ((s.demoteProbation m).nu.get l).seq = (s.nu.get l).seq := by
  have state : (s.demoteProbation m).laneState l = .probation := by
    rw [State.laneState_demoteProbation, if_neg (fun h => ne h.1), probation]
  obtain ⟨ns, box⟩ := (s.demoteProbation_follows m).told l (by rw [state]; rfl)
  exact ⟨state, by rw [box, NoticeBox.pushAll_seq]⟩

/-- Every PROBATION lane loses what a departure takes (R75). -/
theorem State.demoteAll_hasLeft (probation : s.laneState l = .probation) :
    s.HasLeft l .down .noMember s.demoteAll := by
  have notMember : s.laneState l ≠ .member := by rw [probation]; nofun
  cases l with
  | a =>
    have left := State.demoteProbation_hasLeft probation
    exact (left.follows rfl notMember (State.demoteProbation_follows _ .b)).follows rfl notMember
      (State.demoteProbation_follows _ .c)
  | b =>
    obtain ⟨state, seq⟩ := State.demoteProbation_leaves (l := .b) (m := .a) (by decide) probation
    have left := (State.demoteProbation_hasLeft state).before notMember seq
    exact left.follows rfl notMember (State.demoteProbation_follows _ .c)
  | c =>
    obtain ⟨stateA, seqA⟩ := State.demoteProbation_leaves (l := .c) (m := .a) (by decide) probation
    obtain ⟨stateB, seqB⟩ := State.demoteProbation_leaves (l := .c) (m := .b) (by decide) stateA
    exact (State.demoteProbation_hasLeft stateB).before notMember (seqB.trans seqA)

/-! ### The last MEMBER's LEAVE -/

theorem State.laneState_moveLane_last (cause : LaneCause) (was : s.laneState l = .member)
    (last : ∀ k, k ≠ l → s.laneState k ≠ .member) :
    s.moveLane l .down cause = (s.changeLane l .down cause).demoteAll := by
  refine if_pos ⟨was, State.memberCount_eq_zero_iff _ |>.mpr fun k => ?_⟩
  rw [State.laneState_changeLane]
  split
  · nofun
  next ne => exact last k ne

/-- A change of a lane ends with the safe condition as it should stand. -/
theorem State.changeLane_settled (new : LaneState) (cause : LaneCause) :
    (s.changeLane l new cause).shouldBeSafe = (s.changeLane l new cause).sc.flag := by
  obtain ⟨u, result, -⟩ := s.changeLane_reevaluates l new cause
  obtain ⟨base, lm, -, -, flag, -⟩ := u.reevaluate_spec (some l)
  rw [result, flag, State.shouldBeSafe, State.shouldBeSafe, base.cu, base.global,
    State.memberCount_of_states (State.laneState_of_lm lm)]

theorem State.changeLane_journal (new : LaneState) (cause : LaneCause) :
    ∃ more : List (Option Lane × RecordBody), more.length ≤ 2 ∧
      (s.changeLane l new cause).ij = s.ij.submitAll s.global.triggers s.global.postCount s.time
        ((some l, .lane (s.laneState l) new cause (s.lane l).strikes) :: more) := by
  obtain ⟨more, few, journal⟩ := (s.changeLane_follows l new cause).records
  have base := s.announceChange_base l new cause
  refine ⟨more, few, ?_⟩
  rw [journal, base.global, base.time, State.announceChange_ij, ← Journal.submitAll_append]
  rfl

/-- A lane joined through a change of another has its notice sequence kept. -/
theorem State.changeLane_seq (new : LaneState) (cause : LaneCause) (ne : m ≠ l)
    (joined : (s.laneState m).joined = true) : ((s.changeLane l new cause).nu.get m).seq = (s.nu.get m).seq := by
  have kept : ((s.changeLane l new cause).laneState m).joined = true := by
    rwa [State.laneState_changeLane, if_neg ne]
  have follows := s.changeLane_follows l new cause
  obtain ⟨ns, box⟩ := follows.told m kept
  obtain ⟨ms, box'⟩ := s.announceChange_told l new cause (follows.joined_before kept)
  rw [box, NoticeBox.pushAll_seq, box', NoticeBox.pushAll_seq]

/-- Settles O33: the demotions stand behind the change of the last MEMBER, and their records behind its records. -/
theorem lastMemberTakesProbationDown : Obligations.LastMemberTakesProbationDown := by
  intro l m tag s h was last ne probation
  have joined : (s.laneState l).joined = true := joined_of_member was
  have moved := s.laneState_moveLane_last .left was last
  have kept : (s.changeLane l .down .left).laneState m = .probation := by
    rw [State.laneState_changeLane, if_neg ne, probation]
  have entry : (s.changeLane l .down .left).lane m = s.lane m := by rw [State.lane_changeLane, if_neg ne]
  have settled := State.changeLane_settled (s := s) (l := l) .down .left
  have base := s.changeLane_base l .down .left
  refine ⟨_, exec_leave tag h joined, s.moveLane_hasDeparted l joined (.inl rfl) (by simp), ?left, ?apart, ?record⟩
  case left =>
    change s.HasLeft m .down .noMember (s.moveLane l .down .left)
    rw [moved]
    exact (State.demoteAll_hasLeft kept).before (by rw [probation]; nofun)
      (State.changeLane_seq _ _ ne (by rw [probation]; rfl))
  case apart =>
    intro k
    change ((s.moveLane l .down .left).laneState k).joined = false
    rw [moved, State.laneState_demoteAll, State.laneState_changeLane]
    by_cases own : k = l
    · rw [if_pos own]
      rfl
    · rw [if_neg own]
      cases state : s.laneState k with
      | member => exact absurd state (last k own)
      | _ => rfl
  case record =>
    intro running
    change (s.moveLane l .down .left).ij.state ≠ .frozen at running
    change ∃ n : Nat, 1 ≤ n ∧ n ≤ 4 ∧ _ ∈ (s.moveLane l .down .left).ij.ring
    obtain ⟨more, few, journal⟩ := State.changeLane_journal (s := s) (l := l) .down .left
    have demotions := State.demoteAll_journal settled
    rw [base.global, base.time, journal, ← Journal.submitAll_append] at demotions
    generalize first : (some l, RecordBody.lane (s.laneState l) .down .left (s.lane l).strikes) = own at demotions
    have own' : (s.changeLane l .down .left).demotion l = [] := by
      rw [State.demotion, State.laneState_changeLane, if_pos rfl, if_neg nofun]
    have mine : (s.changeLane l .down .left).demotion m =
        [(some m, .lane .probation .down .noMember (s.lane m).strikes)] := by
      rw [State.demotion, if_pos kept, entry]
    obtain ⟨before, after, split', few', few''⟩ := State.demotions_split ne own'
    rw [mine] at split'
    rw [split', List.append_assoc, List.singleton_append, ← List.append_assoc] at demotions
    rw [moved, demotions] at running ⊢
    refine ⟨(own :: more ++ before).length, ?_, ?_, Journal.mem_submitAll _ _ _ _ _ _ _ ?_ running⟩
    all_goals simp only [List.length_append, List.length_cons]; omega

end

end Sys2Proof.Machine

/-! Succession at LEAVE, and the safe condition entered and left (R99, R105, R107, R108). -/

namespace Sys2Proof.Machine

/-! ### The lane of the lowest rank -/

/-- The better of two candidates, as `bestRanked` takes the lanes of a set one by one. -/
def betterRanked (ranks : PerLane Nat) (best : Option Lane) (l : Lane) : Option Lane :=
  match best with
  | none => some l
  | some m => if ranks.get l < ranks.get m then some l else some m

theorem bestRanked_eq (ranks : PerLane Nat) (lanes : LaneSet) :
    bestRanked ranks lanes = lanes.toList.foldl (betterRanked ranks) none := rfl

/-- Neither the candidate before nor the lane taken is better than the candidate after. -/
theorem betterRanked_le (ranks : PerLane Nat) (best : Option Lane) (l : Lane) :
    ∃ m, betterRanked ranks best l = some m ∧ ranks.get m ≤ ranks.get l ∧
      ∀ k, best = some k → ranks.get m ≤ ranks.get k := by
  cases best with
  | none => exact ⟨l, rfl, le_rfl, nofun⟩
  | some k =>
    unfold betterRanked
    dsimp only
    split
    next better => exact ⟨l, rfl, le_rfl, by rintro _ ⟨⟩; exact better.le⟩
    next not => exact ⟨k, rfl, Nat.not_lt.mp not, by rintro _ ⟨⟩; exact le_rfl⟩

theorem foldl_betterRanked_le (ranks : PerLane Nat) (list : List Lane) (best : Option Lane) (k : Lane)
    (among : k ∈ list ∨ best = some k) :
    ∃ m, list.foldl (betterRanked ranks) best = some m ∧ ranks.get m ≤ ranks.get k := by
  induction list generalizing best k with
  | nil => exact ⟨k, among.resolve_left List.not_mem_nil, le_rfl⟩
  | cons l rest ih =>
    obtain ⟨m, chosen, own, before⟩ := betterRanked_le ranks best l
    rw [List.foldl_cons]
    rw [List.mem_cons] at among
    obtain (rfl | later) | earlier := among
    · obtain ⟨r, result, le⟩ := ih _ m (.inr chosen)
      exact ⟨r, result, le.trans own⟩
    · exact ih _ k (.inl later)
    · obtain ⟨r, result, le⟩ := ih _ m (.inr chosen)
      exact ⟨r, result, le.trans (before k earlier)⟩

theorem LaneSet.mem_toList {lanes : LaneSet} {l : Lane} : l ∈ lanes.toList ↔ lanes.get l = true := by
  rw [LaneSet.toList, List.mem_filter, and_iff_right]
  cases l <;> simp [Lane.all]

theorem bestRanked_of_lowest {ranks : PerLane Nat} {lanes : LaneSet} {m : Lane} (member : lanes.get m = true)
    (lowest : ∀ k, k ≠ m → lanes.get k = true → ranks.get m < ranks.get k) : bestRanked ranks lanes = some m := by
  obtain ⟨r, result, le⟩ := foldl_betterRanked_le ranks lanes.toList none m (.inl (LaneSet.mem_toList.mpr member))
  rw [bestRanked_eq, result]
  by_contra other
  have ne : r ≠ m := fun same => other (congrArg some same)
  have := lowest r ne (bestRanked_mem result)
  omega

theorem bestRanked_of_empty {ranks : PerLane Nat} {lanes : LaneSet} (empty : ∀ k, lanes.get k = false) :
    bestRanked ranks lanes = none := by
  cases best : bestRanked ranks lanes with
  | none => rfl
  | some m =>
    have := bestRanked_mem best
    rw [empty m] at this
    cases this

/-! ### Succession -/

section
variable {s t u : State} {l : Lane}

theorem AuthorityUnit.dropClaim_of_not_mem {a : AuthorityUnit} (absent : l ∉ a.claims) : a.dropClaim l = a := by
  unfold AuthorityUnit.dropClaim
  have all : a.claims.filter (fun m => m != l) = a.claims :=
    List.filter_eq_self.mpr fun m queued => by
      rw [bne_iff_ne]
      rintro rfl
      exact absent queued
  rw [all]

/-- Whom succession names without a queue (Table 5.3). -/
def State.ranked (s : State) : Option Lane :=
  if s.global.autoSuccession then bestRanked s.global.ranks s.members else none

/-- The change of holder that succession makes where the departing lane holds authority (Table 5.3). -/
theorem State.succeed_of_holder (holder : s.au.holder = some l) (absent : l ∉ s.au.claims) :
    (∀ h rest, s.au.claims = h :: rest → s.succeed l = s.changeHolder (some h) rest .succeededQueue l) ∧
    (∀ m, s.au.claims = [] → s.ranked = some m → s.succeed l = s.changeHolder (some m) [] .succeededRank l) ∧
    (s.au.claims = [] → s.ranked = none → s.succeed l = s.changeHolder none [] .lost l) := by
  refine ⟨fun h rest queue => ?_, fun m queue best => ?_, fun queue best => ?_⟩
  all_goals rw [State.succeed_over s l s.au s.ranked (AuthorityUnit.dropClaim_of_not_mem absent) rfl, if_pos holder, queue]
  all_goals simp only [best]

theorem State.announceChange_ranked (new : LaneState) (cause : LaneCause) (leaves : new ≠ .member) :
    (s.announceChange l new cause).ranked =
      if s.global.autoSuccession then bestRanked s.global.ranks (s.members.remove l) else none := by
  rw [State.ranked, (s.announceChange_base l new cause).global, State.members_announceChange, if_neg leaves]

/-- What follows the succession of a MEMBER lane's move, and that authority stands as succession leaves it. -/
theorem State.moveLane_succeeds (new : LaneState) (cause : LaneCause) (was : s.laneState l = .member)
    (leaves : new ≠ .member) :
    ((s.announceChange l new cause).succeed l).Follows 10 (s.moveLane l new cause) ∧
      (s.moveLane l new cause).au = ((s.announceChange l new cause).succeed l).au := by
  have left : (s.laneState l == .member && new != .member) = true := by simp [was, leaves]
  have changed : s.changeLane l new cause =
      (((s.announceChange l new cause).succeed l).removeVoter l).reevaluate (some l) := by
    rw [State.changeLane_eq, left, State.concludeChange, if_pos rfl]
  have follows : ((s.announceChange l new cause).succeed l).Follows 1 (s.changeLane l new cause) := by
    rw [changed]
    exact (State.removeVoter_follows _ l).trans (State.reevaluate_follows _ _)
  have au : (s.changeLane l new cause).au = ((s.announceChange l new cause).succeed l).au := by
    rw [changed, State.reevaluate_au, State.removeVoter_au]
  obtain same | demoted := s.moveLane_eq_or l new cause
  · rw [same]
    exact ⟨follows.mono (by omega), au⟩
  · rw [demoted]
    exact ⟨follows.trans (State.demoteAll_follows _), (State.demoteAll_keeps_authority _).1.trans au⟩

/-- A holder's departure: authority as its change leaves it, with the AUTHORITY notice and record behind the LANE
record (R94, R99). -/
theorem State.moveLane_passes {new : LaneState} {cause : LaneCause} (was : s.laneState l = .member)
    (leaves : new ≠ .member) (holder : s.au.holder = some l) {heir : Option Lane} {claims : List Lane} {how : AuthCause}
    (succeeds : (s.announceChange l new cause).succeed l = (s.announceChange l new cause).changeHolder heir claims how l) :
    (s.moveLane l new cause).au = ⟨heir, s.au.epoch + 1, claims⟩ ∧
      s.HasReported 1 (.authority (some l) heir (s.au.epoch + 1) how claims) (some l)
        (.authority (some l) heir (s.au.epoch + 1) how) (s.moveLane l new cause) := by
  obtain ⟨follows, au⟩ := State.moveLane_succeeds new cause was leaves
  have unit := s.announceChange_au l new cause
  rw [succeeds] at follows au
  obtain ⟨-, changed, -⟩ := (s.announceChange l new cause).changeHolder_spec heir claims how l
  have told := (s.announceChange_tells l new cause).silent
    (u := { s.announceChange l new cause with au := s.au.change heir claims }) ⟨rfl, rfl, rfl, rfl, rfl, rfl⟩ rfl rfl rfl
  refine ⟨by rw [au, changed, unit], told.hasReported (by omega) (by simp) (k := 10) (by omega) ?_⟩
  rw [State.changeHolder, unit, holder] at follows
  exact follows

/-! ### Records that do not tell of authority -/

/-- Every record of `t` that `s` does not hold has a body of this sort. -/
def State.AddsOnly (sort : RecordBody → Prop) (s t : State) : Prop := ∀ r ∈ t.ij.ring, r ∈ s.ij.ring ∨ sort r.body

theorem State.AddsOnly.trans {sort : RecordBody → Prop} (h : s.AddsOnly sort t) (g : t.AddsOnly sort u) :
    s.AddsOnly sort u := fun _ held => (g _ held).elim (h _) .inr

theorem State.AddsOnly.of_ij {sort : RecordBody → Prop} (ij : t.ij = s.ij) : s.AddsOnly sort t := fun _ held =>
  .inl (ij ▸ held)

theorem State.AddsOnly.of_submit {sort : RecordBody → Prop} {m : TriggerMask} {k : Nat} {now : Time} {sub : Option Lane}
    {b : RecordBody} (ij : t.ij = s.ij.submit m k now sub b) (fits : sort b) : s.AddsOnly sort t := by
  intro r held
  rw [ij] at held
  by_cases frozen : s.ij.state = .frozen
  · rw [Journal.submit_of_frozen _ _ _ _ _ frozen] at held
    exact .inl held
  · rw [(Journal.submit_stores _ _ _ _ _ frozen).1] at held
    obtain old | new := List.mem_append.mp held
    · left
      split at old
      · exact old
      · exact List.mem_of_mem_tail old
    · right
      rw [List.mem_singleton.mp new]
      exact fits

theorem State.AddsOnly.reevaluate {sort : RecordBody → Prop} (sub : Option Lane)
    (fits : ∀ d m n, sort (.safe d m n)) : s.AddsOnly sort (s.reevaluate sub) := by
  have told : ∀ (v : State) d, v.ij = s.ij → s.AddsOnly sort (v.reportSafe d sub) := by
    intro v d same
    refine .of_submit (?_ : _ = s.ij.submit v.global.triggers v.global.postCount v.time sub _)
      (fits d v.memberCount v.global.minMembers)
    rw [← same]
    exact State.submit_ij _ _ _
  unfold State.reevaluate
  split
  · split
    · exact .of_ij rfl
    · exact told _ _ rfl
  · split
    · exact told _ _ rfl
    · exact .of_ij rfl

/-- Whether a record does not tell of a change of holder. -/
def NotOfAuthority (b : RecordBody) : Prop := ∀ old new epoch cause, b ≠ .authority old new epoch cause

theorem State.announceChange_addsOnly (new : LaneState) (cause : LaneCause) :
    s.AddsOnly NotOfAuthority (s.announceChange l new cause) :=
  .of_submit (s.announceChange_ij l new cause) fun _ _ _ _ => nofun

theorem State.demoteProbation_addsOnly : s.AddsOnly NotOfAuthority (s.demoteProbation l) := by
  unfold State.demoteProbation
  split
  next probation =>
    have stays : (s.laneState l == .member && LaneState.down != .member) = false := by simp [probation]
    rw [State.changeLane_eq, stays, State.concludeChange]
    exact (State.announceChange_addsOnly .down .noMember).trans (.reevaluate _ fun _ _ _ _ _ _ _ => nofun)
  next => exact .of_ij rfl

/-- The departure of a lane that does not hold authority makes no AUTHORITY record. -/
theorem State.moveLane_addsOnly (new : LaneState) (cause : LaneCause) (other : s.au.holder ≠ some l) :
    s.AddsOnly NotOfAuthority (s.moveLane l new cause) := by
  have unit := s.announceChange_au l new cause
  have kept : (s.announceChange l new cause).succeed l =
      { s.announceChange l new cause with au := s.au.dropClaim l } := by
    rw [State.succeed_over (s.announceChange l new cause) l (s.au.dropClaim l) _ (by rw [unit]) rfl]
    exact if_neg other
  have changed : s.AddsOnly NotOfAuthority (s.changeLane l new cause) := by
    rw [State.changeLane_eq, State.concludeChange]
    refine (State.announceChange_addsOnly (s := s) (l := l) new cause).trans
      (.trans ?_ (.reevaluate _ fun _ _ _ _ _ _ _ => nofun))
    split
    · rw [kept]
      exact .of_ij rfl
    · exact .of_ij rfl
  obtain same | demoted := s.moveLane_eq_or l new cause
  · rw [same]
    exact changed
  · rw [demoted]
    exact ((changed.trans State.demoteProbation_addsOnly).trans State.demoteProbation_addsOnly).trans
      State.demoteProbation_addsOnly

/-- Settles O36: succession acts on the state behind the LANE record, where the lane that left is no MEMBER. -/
theorem departureOfTheHolder : Obligations.DepartureOfTheHolder := by
  intro l tag s h was sound
  have joined : (s.laneState l).joined = true := joined_of_member was
  obtain ⟨-, nodup, queued, -⟩ := sound
  have unit := s.announceChange_au l .down .left
  refine ⟨_, exec_leave tag h joined, fun other => ⟨?_, ?_⟩, fun holder => ?_⟩
  · change (s.moveLane l .down .left).au = _
    obtain ⟨-, au⟩ := State.moveLane_succeeds .down .left was nofun
    obtain ⟨-, -, -, -, -, dropped, -⟩ := (s.announceChange l .down .left).succeed_spec l
    rw [au, dropped (by rwa [unit]), unit, AuthorityUnit.dropClaim, claims_filter_of_mem nodup]
  · exact State.moveLane_addsOnly .down .left other
  · have absent : l ∉ s.au.claims := fun claimed => (queued l claimed).2 holder
    obtain ⟨byQueue, byRank, lost⟩ := State.succeed_of_holder (s := s.announceChange l .down .left) (l := l)
      (by rw [unit]; exact holder) (by rw [unit]; exact absent)
    rw [unit] at byQueue byRank lost
    rw [State.announceChange_ranked .down .left nofun] at byRank lost
    have members : ∀ k, (s.members.remove l).get k = true ↔ k ≠ l ∧ s.laneState k = .member := by
      intro k
      rw [LaneSet.get_remove, State.get_members]
      split
      next same => simp [same]
      next ne => simp [ne]
    have passes : ∀ {heir claims how}, _ → _ := fun {heir claims how} => State.moveLane_passes (s := s) (l := l)
      (new := .down) (cause := .left) was nofun holder (heir := heir) (claims := claims) (how := how)
    refine ⟨fun head rest queue => passes (byQueue head rest queue), fun empty =>
      ⟨fun off => ?_, fun on => ⟨fun alone => ?_, fun m ne member lowest => ?_⟩⟩⟩
    · exact passes (lost empty (by rw [off]; rfl))
    · refine passes (lost empty ?_)
      rw [if_pos on]
      refine bestRanked_of_empty fun k => ?_
      rw [← Bool.not_eq_true, members]
      exact fun both => alone k both.1 both.2
    · refine passes (byRank m empty ?_)
      rw [if_pos on]
      refine bestRanked_of_lowest ((members m).mpr ⟨ne, member⟩) fun k other among => ?_
      obtain ⟨apart, member'⟩ := (members k).mp among
      exact lowest k apart other member'

/-! ### The safe condition at a departure -/

/-- The records that a MEMBER lane's change makes before the safe condition is re-evaluated, and the notices with them. -/
theorem State.succeed_tells (new : LaneState) (cause : LaneCause) :
    ∃ made : List (Option Lane × RecordBody), made.length = (if s.au.holder = some l then 2 else 1) ∧
      s.Tells 2 made (((s.announceChange l new cause).succeed l).removeVoter l) := by
  have told := s.announceChange_tells l new cause
  have unit := s.announceChange_au l new cause
  generalize s.announceChange l new cause = u at told unit ⊢
  have more : ∀ {made v}, s.Tells 1 made v → s.Tells 2 made v := fun h =>
    { h with boxes := fun m joined => (h.boxes m joined).imp fun _ both => ⟨both.1, both.2.trans (Nat.le_succ _)⟩ }
  rw [State.succeed_over u l (s.au.dropClaim l) _ (by rw [unit]) rfl]
  by_cases holder : s.au.holder = some l
  · have changed : ∀ heir claims how, ∃ made : List (Option Lane × RecordBody), made.length = 2 ∧ s.Tells 2 made
        ((({ u with au := s.au.dropClaim l } : State).changeHolder heir claims how l).removeVoter
          l) := by
      intro heir claims how
      have begun := told.silent (u := { u with au := (s.au.dropClaim l).change heir claims })
        ⟨rfl, rfl, rfl, rfl, rfl, rfl⟩ rfl rfl rfl
      exact ⟨_, rfl, ((begun.notify _ _).submit _ _).silent ⟨rfl, rfl, rfl, rfl, rfl, rfl⟩ rfl rfl rfl⟩
    rw [if_pos holder, if_pos (show (s.au.dropClaim l).holder = some l from holder)]
    split
    · exact changed _ _ _
    · split <;> exact changed _ _ _
  · rw [if_neg holder, if_neg (show (s.au.dropClaim l).holder ≠ some l from holder)]
    exact ⟨_, rfl, more (told.silent ⟨rfl, rfl, rfl, rfl, rfl, rfl⟩ rfl rfl rfl)⟩

/-- A MEMBER lane's departure that brings the members below minimum members enters the safe condition (R107). -/
theorem State.moveLane_enters {new : LaneState} {cause : LaneCause} (was : s.laneState l = .member)
    (leaves : new ≠ .member) (clear : s.sc.flag = false) (few : s.memberCount ≤ s.global.minMembers) :
    (s.moveLane l new cause).sc.flag = true ∧ (s.moveLane l new cause).sc.safeN = .low ∧
      (s.moveLane l new cause).du = s.du.handSafeValues s.cu.active ∧
      s.HasReported (if s.au.holder = some l then 2 else 1)
        (.safe .entered (s.memberCount - 1) s.global.minMembers) (some l)
        (.safe .entered (s.memberCount - 1) s.global.minMembers) (s.moveLane l new cause) := by
  have left : (s.laneState l == .member && new != .member) = true := by simp [was, leaves]
  obtain ⟨made, length, told⟩ := State.succeed_tells (s := s) (l := l) new cause
  obtain ⟨-, lm, -, du, sc, -⟩ := (s.announceChange l new cause).succeed_spec l
  generalize result : ((s.announceChange l new cause).succeed l).removeVoter l = v at told
  have base := told.base
  have count : v.memberCount = s.memberCount - 1 := by
    have out := State.memberCount_announceChange_out cause was leaves
    have same : v.memberCount = (s.announceChange l new cause).memberCount := by
      rw [← result, State.removeVoter_memberCount]
      exact State.memberCount_of_states (State.laneState_of_lm lm)
    omega
  have positive : 1 ≤ s.memberCount := by
    have out := State.memberCount_announceChange_out cause was leaves
    omega
  have unset : v.sc.flag = false := by
    rw [← result]
    exact (congrArg SafeControl.flag (sc.trans (s.announceChange_sc l new cause))).trans clear
  have drive : v.du = s.du := by
    rw [← result]
    exact du.trans (s.announceChange_du l new cause)
  have should : v.shouldBeSafe = true := by
    rw [State.safeShould_iff, count, base.global]
    right
    omega
  have changed : s.changeLane l new cause = (v.setSafe true).handSafeValues.reportSafe .entered (some l) := by
    rw [State.changeLane_eq, left, State.concludeChange, if_pos rfl, result, State.reevaluate_enters _ should unset]
  have entered : (s.changeLane l new cause).sc.flag = true ∧ (s.changeLane l new cause).sc.safeN = .low ∧
      (s.changeLane l new cause).du = s.du.handSafeValues s.cu.active := by
    rw [changed, State.reportSafe_sc, State.reportSafe_du, State.handSafeValues_du, State.setSafe_du, State.setSafe_cu,
      drive, base.cu]
    exact ⟨rfl, rfl, rfl⟩
  have reported : ∀ {k t}, k ≤ 100 → (s.changeLane l new cause).Follows k t →
      s.HasReported (if s.au.holder = some l then 2 else 1)
        (.safe .entered (s.memberCount - 1) s.global.minMembers) (some l)
        (.safe .entered (s.memberCount - 1) s.global.minMembers) t := by
    intro k t least follows
    rw [← length, ← count, ← base.global]
    rw [changed] at follows
    have begun := told.silent (u := (v.setSafe true).handSafeValues) ⟨rfl, rfl, rfl, rfl, rfl, rfl⟩ rfl rfl rfl
    refine begun.hasReported le_rfl ?_ least follows
    rw [length]
    split <;> omega
  obtain same | demoted := s.moveLane_eq_or l new cause
  · rw [same]
    exact ⟨entered.1, entered.2.1, entered.2.2, reported (Nat.zero_le _) (.refl _)⟩
  · obtain ⟨sc', du'⟩ := State.demoteAll_settled (State.changeLane_settled (s := s) (l := l) new cause)
    rw [demoted, sc', du']
    exact ⟨entered.1, entered.2.1, entered.2.2, reported (k := 9) (by omega) (State.demoteAll_follows _)⟩

/-- Settles O37: the rows of Table 6.1, then the change that a departure, a JOIN and a promotion are. -/
theorem safeConditionIsEnteredAndLeft : Obligations.SafeConditionIsEnteredAndLeft := by
  refine ⟨fun sub s => ?rows, fun l tag s operate => ⟨?departure, ?join, ?promotion⟩⟩
  case rows =>
    dsimp only
    rw [← s.safeShould_iff]
    refine ⟨fun should clear => ?_, fun should set => ?_, fun settled => ?_⟩
    · rw [State.reevaluate_enters sub should clear]
      rfl
    · rw [State.reevaluate_exits sub ((Bool.not_eq_true _).mp should) set]
      rfl
    · exact State.reevaluate_of_settled sub (Bool.eq_iff_iff.mpr settled)
  case departure =>
    intro h clear was few
    obtain ⟨flag, pin, du, reported⟩ := State.moveLane_enters (new := .down) (cause := .left) was nofun clear few
    refine ⟨_, exec_leave tag h (joined_of_member was), flag, pin, fun p => ?_, reported⟩
    obtain ⟨handed, left⟩ := s.du.part_handSafeValues s.cu.active p
    change (_ → _ → ((s.moveLane l .down .left).du.part p).target = _) ∧
      (_ → (s.moveLane l .down .left).du.part p = _)
    rw [du]
    exact ⟨handed, left⟩
  case join =>
    intro h safe down run none' one
    have founds : s.joinState = .member := if_pos none'
    have kept : (s.putLane l (s.freshEntry l)).laneState l ≠ .member := by
      have same : (s.freshEntry l).state = s.laneState l := rfl
      rw [State.laneState_putLane_of_same same, down]
      nofun
    have count : (s.putLane l (s.freshEntry l)).memberCount = s.memberCount :=
      State.memberCount_of_states (State.laneState_counts s rfl)
    obtain ⟨flag, pin, du, reported⟩ := State.moveLane_exits (s := s.putLane l (s.freshEntry l)) s.joinCause kept operate
      safe (by rw [count, State.putLane_global]; omega)
    rw [count, none', State.putLane_global, one] at reported
    have run' := exec_join tag h operate down run
    rw [founds] at run'
    exact ⟨_, run', flag, pin, du, reported⟩
  case promotion =>
    intro safe probation passed enough
    have promoted : s.takeVerdict l (some .probationCredit) =
        (s.putLane l { s.lane l with credit := 0 }).moveLane l .member .probationPassed := by
      rw [(s.takeVerdict_of_probation l probation).1]
      exact if_pos passed
    have states := State.laneState_counts s (l := l) (e := { s.lane l with credit := 0 }) rfl
    have kept : (s.putLane l { s.lane l with credit := 0 }).laneState l ≠ .member := by
      rw [states, probation]
      nofun
    have count : (s.putLane l { s.lane l with credit := 0 }).memberCount = s.memberCount :=
      State.memberCount_of_states states
    obtain ⟨flag, pin, du, reported⟩ := State.moveLane_exits (s := s.putLane l { s.lane l with credit := 0 })
      .probationPassed kept operate safe (by rwa [count])
    rw [count, ← promoted] at reported
    rw [← promoted] at flag pin du
    refine ⟨?_, flag, pin, du, reported⟩
    rw [promoted, State.moveLane_of_not_member _ l _ _ kept, State.laneState_changeLane, if_pos rfl]

end

end Sys2Proof.Machine

/-! What a warm restart and a commit leave, and the records they make (R13, R14, R89, R90, R103, R111 to R114, R169,
R170). -/

namespace Sys2Proof.Machine

/-! ### Records made on the way -/

/-- On the way from `s` to `t` the journal takes these records and no others. -/
structure State.Records (made : List (Option Lane × RecordBody)) (s t : State) : Prop where
  base : s.SameBase t
  journal : t.ij = s.ij.submitAll s.global.triggers s.global.postCount s.time made

section
variable {s t u : State} {made more : List (Option Lane × RecordBody)}

theorem State.Records.trans (h : s.Records made t) (g : t.Records more u) : s.Records (made ++ more) u where
  base := h.base.trans g.base
  journal := by rw [g.journal, h.base.global, h.base.time, h.journal, Journal.submitAll_append]

theorem State.Records.of_silent (base : s.SameBase t) (ij : t.ij = s.ij) : s.Records [] t := ⟨base, ij⟩

/-- One record, submitted behind what the journal does not see. -/
theorem State.Records.of_submit (base : s.SameBase t) (ij : t.ij = s.ij) (sub : Option Lane) (b : RecordBody) :
    s.Records [(sub, b)] (t.submit sub b) where
  base := base.trans (t.submit_base sub b)
  journal := by
    rw [State.submit_ij, ij, base.global, base.time]
    rfl

theorem State.Records.hasRecorded {before : State} (h : s.Records made t) (ij : s.ij = before.ij)
    (time : s.time = before.time) (some' : made ≠ []) (few : made.length ≤ 256) : before.HasRecorded made t := by
  obtain ⟨r, rest, rfl⟩ := List.exists_cons_of_ne_nil some'
  refine before.hasRecorded t r rest few ?_
  rw [State.foldl_submit_ij, h.journal, ij, time]
  change _ = Journal.submitAll t.global.triggers t.global.postCount before.time (r :: rest) before.ij
  rw [h.base.global]

/-- A run of records that no trigger selects leaves a journal RECORDING (R153). -/
theorem Journal.submitAll_recording {m : TriggerMask} {j : Journal} (k : Nat) (now : Time)
    (unselected : ∀ r ∈ made, m.selects r.2 = false) (recording : j.state = .recording) :
    (j.submitAll m k now made).state = .recording := by
  induction made generalizing j with
  | nil => exact recording
  | cons r rest ih =>
    refine ih (fun x later => unselected x (List.mem_cons_of_mem _ later)) ?_
    change (j.submit m k now r.1 r.2).state = .recording
    rw [Journal.submit_of_unselected _ _ _ _ recording (unselected r List.mem_cons_self)]
    exact recording

/-! ### The reply behind a request that changes no link -/

theorem State.replied_lu (link : ReqLink) (r : Reply) (lu : t.lu = s.lu) (time : t.time = s.time) :
    (t.replied link r).lu = (s.replied link r).lu := by
  unfold State.replied State.putLink State.link
  dsimp only
  rw [lu, time]

theorem State.replied_link (link : ReqLink) (r : Reply) (k : Link) :
    ((t.replied link r).link k).state = (t.link k).state ∧ ((t.replied link r).link k).credit = (t.link k).credit ∧
      ((t.replied link r).link k).sending = (t.link k).sending := by
  rw [State.replied, State.link_putLink]
  split
  next here => rw [here]; exact ⟨rfl, rfl, rfl⟩
  next => exact ⟨rfl, rfl, rfl⟩

/-! ### A warm restart -/

/-- A filtered and mapped list, element by element. -/
theorem List.map_filter_eq_flatMap {α β : Type} (p : α → Bool) (f : α → β) (xs : List α) :
    (xs.filter p).map f = xs.flatMap fun x => if p x then [f x] else [] := by
  induction xs with
  | nil => rfl
  | cons x rest ih =>
    rw [List.filter_cons, List.flatMap_cons, ← ih]
    split <;> rfl

/-- The LANE record of a warm restart for one lane (R89). -/
def State.restartRecord (s : State) (l : Lane) : List (Option Lane × RecordBody) :=
  if (s.laneState l).joined || s.laneState l == .excluded then
    [(some l, .lane (s.laneState l) .down .restart (s.lane l).strikes)]
  else []

theorem State.restartRecord_eq (s : State) (l : Lane) :
    s.restartRecord l =
      if (s.laneState l).joined || s.laneState l == .excluded then
        [(some l, .lane (s.laneState l) .down .restart (s.lane l).strikes)]
      else [] :=
  rfl

theorem State.restartLane_records (l : Lane) : s.Records (s.restartRecord l) (s.restartLane l) := by
  rw [State.restartLane_eq, State.restartRecord_eq]
  split
  · exact .of_submit (s := s) (t := (s.putLane l (s.lane l).restarted).emptyNotices l) ⟨rfl, rfl, rfl, rfl, rfl, rfl⟩ rfl _ _
  · exact .of_silent ⟨rfl, rfl, rfl, rfl, rfl, rfl⟩ rfl

theorem State.restartRecord_of_lane {l : Lane} (same : t.lane l = s.lane l) : t.restartRecord l = s.restartRecord l := by
  have state : t.laneState l = s.laneState l := congrArg LaneEntry.state same
  rw [State.restartRecord_eq, State.restartRecord_eq, state, same]

theorem State.restartLanes_records :
    s.Records (s.restartRecord .a ++ s.restartRecord .b ++ s.restartRecord .c) s.restartLanes := by
  have b : (s.restartLane .a).restartRecord .b = s.restartRecord .b :=
    State.restartRecord_of_lane (by rw [State.lane_restartLane, if_neg (by decide)])
  have c : ((s.restartLane .a).restartLane .b).restartRecord .c = s.restartRecord .c :=
    State.restartRecord_of_lane (by
      rw [State.lane_restartLane, if_neg (by decide), State.lane_restartLane, if_neg (by decide)])
  rw [← b, ← c]
  exact ((State.restartLane_records .a).trans (State.restartLane_records .b)).trans (State.restartLane_records .c)

theorem State.clearAuthority_records :
    s.Records (s.au.holder.toList.map fun h => (some h, .authority (some h) none (s.au.epoch + 1) .restart))
      s.clearAuthority := by
  unfold State.clearAuthority
  split
  next free =>
    rw [free]
    exact .of_silent ⟨rfl, rfl, rfl, rfl, rfl, rfl⟩ rfl
  next holder held =>
    rw [held]
    exact .of_submit (s := s) (t := { s with au := s.au.change none [] }) ⟨rfl, rfl, rfl, rfl, rfl, rfl⟩ rfl _ _

theorem State.restartSafe_records (none' : s.memberCount = 0) :
    s.Records (if s.sc.flag = true then [] else [(none, .safe .entered 0 s.global.minMembers)]) s.restartSafe := by
  unfold State.restartSafe
  dsimp only
  split
  · exact .of_silent ⟨rfl, rfl, rfl, rfl, rfl, rfl⟩ rfl
  · rw [State.handSafeValues_memberCount, State.setSafe_memberCount, none']
    exact .of_submit (s := s) (t := (s.setSafe true).handSafeValues) ⟨rfl, rfl, rfl, rfl, rfl, rfl⟩ rfl _ _

theorem State.restartBegun_records (kind : RestartKind) (voters : LaneSet) :
    s.Records [(none, .restart kind voters)] (s.restartBegun kind voters) where
  base := (s.restartBegun_rest kind voters).1
  journal := s.submit_ij none (.restart kind voters)

/-- The records of a warm restart, in their order (R114). -/
def State.restartMade (kind : RestartKind) (voters : LaneSet) (s : State) : List (Option Lane × RecordBody) :=
  [(none, RecordBody.restart kind voters)] ++
    ([Lane.a, .b, .c].filter fun l => (s.laneState l).joined || s.laneState l == .excluded).map (fun l =>
      (some l, RecordBody.lane (s.laneState l) .down .restart (s.lane l).strikes)) ++
    s.au.holder.toList.map (fun h => (some h, RecordBody.authority (some h) none (s.au.epoch + 1) .restart)) ++
    if s.sc.flag = true then [] else [(none, RecordBody.safe .entered 0 s.global.minMembers)]

theorem State.warmRestart_records (kind : RestartKind) (voters : LaneSet) :
    s.Records (s.restartMade kind voters) (s.warmRestart kind voters) := by
  obtain ⟨base, lm, -, -, au, sc⟩ := s.restartBegun_rest kind voters
  obtain ⟨-, -, auL, scL⟩ := (s.restartBegun kind voters).restartLanes_rest
  obtain ⟨-, lmC, -, -, scC⟩ := (s.restartBegun kind voters).restartLanes.clearAuthority_rest
  have baseL := base.trans (s.restartBegun kind voters).restartLanes_base
  have baseC := baseL.trans (s.restartBegun kind voters).restartLanes.clearAuthority_base
  have lanes := (s.restartBegun kind voters).restartLanes_records
  rw [State.restartRecord_of_lane (State.lane_of_lm lm _), State.restartRecord_of_lane (State.lane_of_lm lm _),
    State.restartRecord_of_lane (State.lane_of_lm lm _)] at lanes
  have authority := (s.restartBegun kind voters).restartLanes.clearAuthority_records
  rw [auL, au] at authority
  have none' : (s.restartBegun kind voters).restartLanes.clearAuthority.memberCount = 0 := by
    refine State.memberCount_of_none_joined fun l => ?_
    rw [State.laneState_of_lm lmC, State.laneState, State.lane_restartLanes]
    exact LaneEntry.restarted_apart _
  have safe := State.restartSafe_records none'
  rw [baseC.global, scC, scL, sc] at safe
  have all := ((State.restartBegun_records kind voters).trans lanes).trans authority |>.trans safe
  rw [State.restartMade, List.map_filter_eq_flatMap]
  rw [← s.warmRestart_eq kind voters] at all
  simpa [State.restartRecord] using all

theorem State.seq_submit (sub : Option Lane) (b : RecordBody) (m : Lane) :
    ((s.submit sub b).nu.get m).seq = (s.nu.get m).seq := by
  obtain ⟨ns, box, -⟩ := s.submit_box sub b m
  rw [box, NoticeBox.pushAll_seq]

/-- A warm restart sets every notice sequence to 0 (R149). -/
theorem State.warmRestart_seq (kind : RestartKind) (voters : LaneSet) (m : Lane) :
    ((s.warmRestart kind voters).nu.get m).seq = 0 := by
  have lane : ∀ (u : State) l, ((u.restartLane l).nu.get m).seq = (u.nu.get m).seq := by
    intro u l
    rw [State.restartLane_eq]
    split
    · rw [State.seq_submit, State.emptyNotices_nu, PerLane.get_set]
      split
      next same => rw [same]; rfl
      next => rfl
    · rfl
  have authority : ∀ u : State, (u.clearAuthority.nu.get m).seq = (u.nu.get m).seq := by
    intro u
    unfold State.clearAuthority
    split
    · rfl
    · exact State.seq_submit _ _ m
  have safe : ∀ u : State, (u.restartSafe.nu.get m).seq = (u.nu.get m).seq := by
    intro u
    unfold State.restartSafe
    dsimp only
    split
    · rfl
    · exact State.seq_submit _ _ m
  rw [State.warmRestart_eq, safe, authority, State.restartLanes, lane, lane, lane]
  cases m <;> rfl

theorem State.restartMade_few (s : State) (kind : RestartKind) (voters : LaneSet) :
    (s.restartMade kind voters).length ≤ 256 := by
  have lanes := List.length_filter_le (fun l => (s.laneState l).joined || s.laneState l == .excluded) [Lane.a, .b, .c]
  have holder : s.au.holder.toList.length ≤ 1 := by cases s.au.holder <;> simp
  simp only [State.restartMade, List.length_append, List.length_map, List.length_cons, List.length_nil] at lanes ⊢
  split
  all_goals
    simp only [List.length_cons, List.length_nil]
    omega

theorem State.warmRestart_hasRestarted (kind : RestartKind) (voters : LaneSet) (link : ReqLink) (r : Reply) :
    s.HasRestarted kind voters ((s.warmRestart kind voters).replied link r) := by
  obtain ⟨lanes, ve, du, au, sc⟩ := s.warmRestart_spec kind voters
  have base := s.warmRestart_base kind voters
  have recorded : s.HasRecorded _ (s.warmRestart kind voters) :=
    (s.warmRestart_records kind voters).hasRecorded rfl rfl (List.cons_ne_nil _ _) (s.restartMade_few kind voters)
  refine ⟨recorded, ⟨base.cu, base.time, base.straps, base.resetN, base.pending⟩, fun p => ⟨?_, ?_⟩, ?_, fun l => ?_,
    fun l => ⟨fun absent => ?_, fun present => ?_⟩, au, sc, fun k => ?_⟩
  · change PerPoint.at (s.warmRestart kind voters).ve p = _
    rw [ve, PerPoint.at_tabulate]
    rfl
  · change (s.warmRestart kind voters).du.part p = _
    rw [du, DriveUnit.part_reinit]
    rfl
  · change (s.warmRestart kind voters).du.queue = _ ∧ (s.warmRestart kind voters).du.echoes = _ ∧
      (s.warmRestart kind voters).du.tagCounter = _
    rw [du]
    exact ⟨rfl, rfl, rfl⟩
  · obtain ⟨queue, lost⟩ := s.warmRestart_quiet kind voters l
    have seq := s.warmRestart_seq kind voters l
    change (s.warmRestart kind voters).nu.get l = _
    rw [← queue, ← lost, ← seq]
  · change (s.warmRestart kind voters).lane l = _
    rw [lanes]
    exact if_pos absent
  · change (s.warmRestart kind voters).lane l = _
    rw [lanes]
    exact if_neg present
  · have same : (s.warmRestart kind voters).link k = s.link k := congrArg (PerLink.get · k) base.lu
    have kept := State.replied_link (t := s.warmRestart kind voters) link r k
    rwa [same] at kept

/-- What a warm restart leaves does not tell whether a restart collection was open. -/
theorem State.HasRestarted.of_collection {c : Option Collection} {kind : RestartKind} {voters : LaneSet}
    (h : State.HasRestarted kind voters { s with sc := { s.sc with collection := c } } t) :
    s.HasRestarted kind voters t := by
  obtain ⟨⟨journal, stored, dropped⟩, rest⟩ := h
  rw [State.foldl_submit_ij] at journal
  refine ⟨⟨?_, stored, dropped⟩, rest⟩
  rw [State.foldl_submit_ij]
  exact journal

theorem State.HasRestarted.of_voters {kind : RestartKind} {v w : LaneSet} (h : s.HasRestarted kind v t) (same : v = w) :
    s.HasRestarted kind w t := same ▸ h

end

/-- Settles O39: the vote that reaches the threshold, and the maintenance request. -/
theorem warmRestartReinitialises : Obligations.WarmRestartReinitialises := by
  intro tag payload s
  refine ⟨fun l h operate member fresh enough => ?_, fun h => ⟨fun long => ?_, fun config => ?_, fun operate => ?_⟩⟩
  · have served : serveKind .restart (.lane l) [] s =
        ⟨State.warmRestart .laneVoted (s.collectionWith l).voters
          { s with sc := { s.sc with collection := some (s.collectionWith l) } }, .restarted, .nothing⟩ := by
      have voters : (s.sc.collection.filter fun c => c.voters.get l) = none := by
        rw [Option.filter_eq_none_iff]
        exact fun c held voted => absurd (fresh c held) (by rw [voted]; nofun)
      have reached : restartThreshold s.global.fitted ≤ (s.collectionWith l).voters.count := by
        refine enough.trans (le_of_eq ?_)
        unfold State.collectionWith
        cases held : s.sc.collection with
        | none => cases l <;> rfl
        | some c => exact (LaneSet.count_insert (fresh c held)).symm
      simp only [serveKind, serveRestart, readNothing, operate, member, voters]
      rw [if_neg nofun, if_neg (fun ne => ne rfl), if_pos reached]
    have base := State.warmRestart_base { s with sc := { s.sc with collection := some (s.collectionWith l) } } .laneVoted
      (s.collectionWith l).voters
    refine ⟨_, exec_of_lane (kind := .restart) rfl nofun h served, ?_, State.replied_lu _ _ base.lu base.time⟩
    refine (State.warmRestart_hasRestarted _ _ _ _).of_collection.of_voters ?_
    unfold State.collectionWith
    cases s.sc.collection with
    | none => cases l <;> rfl
    | some c => rfl
  · refine exec_of_unchanged (kind := .restart) rfl nofun h ?_
    simp only [serveKind, serveMaintenanceRestart, readNothing_eq_none long]
    rfl
  · refine exec_of_unchanged (kind := .restart) rfl nofun h ?_
    simp [serveKind, serveMaintenanceRestart, readNothing, config, State.refuse]
  · have served : serveKind .restart .ml [] s =
        ⟨s.warmRestart .maintenance LaneSet.empty, .restarted, .nothing⟩ := by
      simp [serveKind, serveMaintenanceRestart, readNothing, operate]
    have base := s.warmRestart_base .maintenance LaneSet.empty
    exact ⟨_, exec_of_serveKind (kind := .restart) rfl nofun h served (.inl base),
      State.warmRestart_hasRestarted _ _ _ _, State.replied_lu _ _ base.lu base.time⟩

end Sys2Proof.Machine

/-! The validation of an image, item by item (R169, Table 10.4), and what a commit leaves and records (R13, R90, R170). -/

namespace Sys2Proof.Machine

/-! ### The global checks -/

theorem LaneSet.isEmpty_eq_false_iff {x : LaneSet} : x.isEmpty = false ↔ ∃ l, x.get l = true := by
  rw [← Bool.not_eq_true, LaneSet.isEmpty_iff]
  push Not
  simp

theorem ranksDistinct_iff {g : GlobalCfg} :
    ranksDistinct g = true ↔
      ∀ l m, g.fitted.get l = true → g.fitted.get m = true → l ≠ m → g.ranks.get l ≠ g.ranks.get m := by
  have nodup : g.fitted.toList.Nodup := List.Nodup.filter _ (by decide)
  rw [ranksDistinct, decide_eq_true_eq, List.nodup_map_iff_inj_on nodup]
  simp only [LaneSet.mem_toList]
  exact ⟨fun inj l m hl hm ne same => ne (inj l hl m hm same),
    fun apart l hl m hm same => by_contra fun ne => apart l m hl hm ne same⟩

/-- The global item named is that of the first check that fails (R169). -/
theorem globalItem_iff (g : GlobalCfg) :
    (globalItem g = none ↔ g.fitted.isEmpty = false ∧ g.minMembers ≤ g.fitted.count ∧ ranksDistinct g = true) ∧
      (globalItem g = some .noLane ↔ ¬ g.fitted.isEmpty = false) ∧
      (globalItem g = some .minMembers ↔ g.fitted.isEmpty = false ∧ ¬ g.minMembers ≤ g.fitted.count) ∧
      (globalItem g = some .ranks ↔
        g.fitted.isEmpty = false ∧ g.minMembers ≤ g.fitted.count ∧ ¬ ranksDistinct g = true) := by
  unfold globalItem
  split_ifs <;> simp_all

/-! ### The checks of a point -/

theorem PointCfg.voted_iff (c : PointCfg) : c.electorate.isEmpty = true ↔ ¬ ∃ l, c.electorate.get l = true := by
  rw [← LaneSet.isEmpty_eq_false_iff, Bool.not_eq_false]

theorem PointCfg.within_iff (fitted : LaneSet) (c : PointCfg) :
    c.electorate.subset fitted = false ↔ ¬ ∀ l, c.electorate.get l = true → fitted.get l = true := by
  rw [← LaneSet.subset_iff, Bool.not_eq_true]

theorem PointCfg.safe_iff (c : PointCfg) :
    (c.safe.toInt < c.min.toInt ∨ c.max.toInt < c.safe.toInt) ↔
      ¬ (c.min.toInt ≤ c.safe.toInt ∧ c.safe.toInt ≤ c.max.toInt) := by
  omega

theorem PointCfg.form_iff (c : PointCfg) :
    (c.kind = .discrete ∧ (c.tolerance ≠ 0 ∨ c.min ≠ 0 ∨ c.max ≠ 1)) ↔
      ¬ (c.kind = .discrete → c.tolerance = 0 ∧ c.min = 0 ∧ c.max = 1) := by
  tauto

/-- The item that a chain of five checks names: that of the first check that fails. -/
theorem item_of_checks {α : Type} {a b c d e : α} {n1 n2 n3 n4 n5 p1 p2 p3 p4 p5 : Prop} [Decidable n1] [Decidable n2]
    [Decidable n3] [Decidable n4] [Decidable n5] (distinct : [a, b, c, d, e].Nodup) (h1 : n1 ↔ ¬ p1) (h2 : n2 ↔ ¬ p2)
    (h3 : n3 ↔ ¬ p3) (h4 : n4 ↔ ¬ p4) (h5 : n5 ↔ ¬ p5) {x : Option α}
    (named : x = if n1 then some a else if n2 then some b else if n3 then some c else if n4 then some d
      else if n5 then some e else none) :
    (x = none ↔ p1 ∧ p2 ∧ p3 ∧ p4 ∧ p5) ∧ (x = some a ↔ ¬ p1) ∧ (x = some b ↔ p1 ∧ ¬ p2) ∧
      (x = some c ↔ p1 ∧ p2 ∧ ¬ p3) ∧ (x = some d ↔ p1 ∧ p2 ∧ p3 ∧ ¬ p4) ∧
      (x = some e ↔ p1 ∧ p2 ∧ p3 ∧ p4 ∧ ¬ p5) := by
  simp only [List.nodup_cons, List.mem_cons, not_or, List.not_mem_nil, not_false_eq_true, List.nodup_nil,
    and_true] at distinct
  obtain ⟨⟨ab, ac, ad, ae⟩, ⟨bc, bd, be⟩, ⟨cd, ce⟩, de⟩ := distinct
  split_ifs at named <;> subst named <;> simp_all [eq_comm]

/-! ### The points in ascending order -/

section
variable {i : Image}

/-- Whether a point's checks hold, where the image enables it. -/
def Image.passes (i : Image) (p : Fin 64) : Prop :=
  (i.points.at p).enabled = true → pointItem i.global.fitted (i.points.at p) = none

theorem firstPointItem_nil : firstPointItem i [] = none := rfl

theorem firstPointItem_cons (p : Fin 64) (rest : List (Fin 64)) :
    firstPointItem i (p :: rest) =
      if (i.points.at p).enabled = true then
        (pointItem i.global.fitted (i.points.at p)).elim (firstPointItem i rest) fun item => some (item, p)
      else firstPointItem i rest := by
  rw [firstPointItem]
  cases pointItem i.global.fitted (i.points.at p) <;> rfl

theorem firstPointItem_cons_of_passes {p : Fin 64} {rest : List (Fin 64)} (ok : i.passes p) :
    firstPointItem i (p :: rest) = firstPointItem i rest := by
  rw [firstPointItem_cons]
  split
  next enabled => rw [ok enabled]; rfl
  next => rfl

theorem firstPointItem_cons_of_fails {p : Fin 64} {rest : List (Fin 64)} {item : ItemCode}
    (enabled : (i.points.at p).enabled = true) (fails : pointItem i.global.fitted (i.points.at p) = some item) :
    firstPointItem i (p :: rest) = some (item, p) := by
  rw [firstPointItem_cons, if_pos enabled, fails]
  rfl

theorem Image.fails_of_not_passes {p : Fin 64} (bad : ¬ i.passes p) :
    (i.points.at p).enabled = true ∧ ∃ item, pointItem i.global.fitted (i.points.at p) = some item := by
  unfold Image.passes at bad
  push Not at bad
  exact ⟨bad.1, Option.ne_none_iff_exists'.mp bad.2⟩

theorem firstPointItem_eq_none_iff {xs : List (Fin 64)} : firstPointItem i xs = none ↔ ∀ p ∈ xs, i.passes p := by
  induction xs with
  | nil => simp [firstPointItem_nil]
  | cons p rest ih =>
    rw [List.forall_mem_cons, ← ih]
    by_cases ok : i.passes p
    · rw [firstPointItem_cons_of_passes ok, and_iff_right ok]
    · obtain ⟨enabled, item, fails⟩ := Image.fails_of_not_passes ok
      rw [firstPointItem_cons_of_fails enabled fails]
      exact iff_of_false nofun fun both => ok both.1

/-- The point named is the first in the list whose checks fail (R169). -/
theorem firstPointItem_eq_some_iff {xs : List (Fin 64)} (ascending : xs.Pairwise (· < ·)) {item : ItemCode} {p : Fin 64} :
    firstPointItem i xs = some (item, p) ↔
      p ∈ xs ∧ (∀ q ∈ xs, q < p → i.passes q) ∧ (i.points.at p).enabled = true ∧
        pointItem i.global.fitted (i.points.at p) = some item := by
  induction xs with
  | nil => simp [firstPointItem_nil]
  | cons r rest ih =>
    obtain ⟨below, later⟩ := List.pairwise_cons.mp ascending
    by_cases ok : i.passes r
    · rw [firstPointItem_cons_of_passes ok, ih later, List.mem_cons, List.forall_mem_cons]
      refine ⟨fun ⟨mem, before, rest'⟩ => ⟨.inr mem, ⟨fun _ => ok, before⟩, rest'⟩, fun ⟨mem, before, enabled, fails⟩ =>
        ⟨mem.resolve_left fun same => ?_, before.2, enabled, fails⟩⟩
      rw [same] at enabled fails
      rw [ok enabled] at fails
      cases fails
    · obtain ⟨enabled, first, fails⟩ := Image.fails_of_not_passes ok
      rw [firstPointItem_cons_of_fails enabled fails]
      constructor
      · rintro ⟨⟩
        refine ⟨List.mem_cons_self, fun q mem lt => ?_, enabled, fails⟩
        obtain rfl | mem := List.mem_cons.mp mem
        · exact absurd lt (lt_irrefl _)
        · exact absurd lt (lt_asymm (below q mem))
      · rintro ⟨mem, before, -, fails'⟩
        obtain rfl | mem := List.mem_cons.mp mem
        · rw [Option.some.inj (fails.symm.trans fails')]
        · exact absurd (before r List.mem_cons_self (below p mem)) ok

theorem allPoints_ascending : allPoints.Pairwise (· < ·) := List.pairwise_lt_finRange 64

/-! ### The whole image -/

theorem validateImage_of_global {item : ItemCode} (fails : globalItem i.global = some item) :
    validateImage i = some (item, none) := by
  rw [validateImage, fails]

theorem validateImage_of_points (passes : globalItem i.global = none) :
    validateImage i = (firstPointItem i allPoints).map fun x => (x.1, some x.2) := by
  rw [validateImage, passes]

theorem validateImage_eq_none_iff : validateImage i = none ↔ globalItem i.global = none ∧ ∀ p, i.passes p := by
  have points : firstPointItem i allPoints = none ↔ ∀ p, i.passes p :=
    firstPointItem_eq_none_iff.trans ⟨fun all p => all p (mem_allPoints p), fun all p _ => all p⟩
  cases global : globalItem i.global with
  | none => rw [validateImage_of_points global, Option.map_eq_none_iff, points, and_iff_right rfl]
  | some item =>
    rw [validateImage_of_global global]
    exact iff_of_false nofun nofun

theorem validateImage_eq_global_iff {item : ItemCode} :
    validateImage i = some (item, none) ↔ globalItem i.global = some item := by
  cases global : globalItem i.global with
  | none =>
    rw [validateImage_of_points global]
    cases firstPointItem i allPoints <;> simp
  | some first =>
    rw [validateImage_of_global global]
    simp

theorem validateImage_eq_point_iff {item : ItemCode} {p : Fin 64} :
    validateImage i = some (item, some p) ↔
      globalItem i.global = none ∧ (∀ q, q < p → i.passes q) ∧ (i.points.at p).enabled = true ∧
        pointItem i.global.fitted (i.points.at p) = some item := by
  have first := firstPointItem_eq_some_iff (i := i) allPoints_ascending (item := item) (p := p)
  simp only [mem_allPoints, true_and, forall_const] at first
  cases global : globalItem i.global with
  | none =>
    rw [validateImage_of_points global]
    cases points : firstPointItem i allPoints <;> simp_all [Prod.ext_iff]
  | some other =>
    rw [validateImage_of_global global]
    simp

end

/-! ### What a commit leaves -/

/-- A lane outside PROBATION and MEMBER changes at a commit exactly where the new image fits it otherwise (Table 4.7). -/
theorem commitChange_of_apart {state : LaneState} (apart : state.joined = false) (fitted : Bool) :
    commitChange state fitted =
      if (state != .absent) != fitted then
        some (if fitted = true then .down else .absent, if fitted = true then .fitted else .unfitted)
      else none := by
  cases state with
  | probation => cases apart
  | member => cases apart
  | absent => cases fitted <;> rfl
  | down => cases fitted <;> rfl
  | excluded => cases fitted <;> rfl

theorem LaneEntry.committed_apart {e : LaneEntry} (apart : e.state.joined = false) (fitted : Bool) :
    (e.committed fitted).state.joined = false := by
  unfold LaneEntry.committed
  rw [commitChange_of_apart apart]
  split
  next none' => exact apart
  next new cause changed =>
    split at changed
    · cases changed
      cases fitted <;> rfl
    · cases changed

theorem LaneEntry.committed_of_apart {e : LaneEntry} (apart : e.state.joined = false) (fitted : Bool) :
    e.committed fitted =
      if (e.state != .absent) != fitted then
        { state := if fitted = true then .down else .absent
          strikes := 0
          cleanRun := 0
          credit := 0
          beatDeadline := none
          beatSeq := none
          holdDeadline := none
          lastCause := if fitted = true then .fitted else .unfitted }
      else { e with beatSeq := none } := by
  rw [LaneEntry.committed, commitChange_of_apart apart]
  cases (e.state != .absent) != fitted <;> rfl

/-- Whether a commit changes a lane, and the record it then makes (R90). -/
def State.commitChanges (s : State) (l : Lane) : Bool := (s.laneState l != .absent) != s.global.fitted.get l

def State.commitRecord (s : State) (l : Lane) : List (Option Lane × RecordBody) :=
  if s.commitChanges l then
    [(some l, .lane (s.laneState l) (if s.global.fitted.get l = true then .down else .absent)
      (if s.global.fitted.get l = true then .fitted else .unfitted) (s.lane l).strikes)]
  else []

theorem State.commitChanges_eq (s : State) (l : Lane) :
    s.commitChanges l = ((s.laneState l != .absent) != s.global.fitted.get l) :=
  rfl

theorem State.commitRecord_eq (s : State) (l : Lane) :
    s.commitRecord l =
      if s.commitChanges l then
        [(some l, .lane (s.laneState l) (if s.global.fitted.get l = true then .down else .absent)
          (if s.global.fitted.get l = true then .fitted else .unfitted) (s.lane l).strikes)]
      else [] :=
  rfl

section
variable {s t : State} {l : Lane}

theorem State.commitChanges_iff :
    s.commitChanges l = true ↔ ¬ (s.laneState l = .absent ↔ s.global.fitted.get l = false) := by
  rw [State.commitChanges_eq]
  cases s.laneState l <;> cases s.global.fitted.get l <;> decide

theorem State.commitRecord_few : (s.commitRecord l).length ≤ 1 := by
  rw [State.commitRecord_eq]
  split
  · exact le_rfl
  · exact Nat.zero_le 1

theorem State.commitChanges_of_lane (base : s.SameBase t) (same : t.lane l = s.lane l) :
    t.commitChanges l = s.commitChanges l := by
  rw [State.commitChanges_eq, State.commitChanges_eq, State.laneState, same, base.global]
  rfl

theorem State.commitRecord_of_lane (base : s.SameBase t) (same : t.lane l = s.lane l) :
    t.commitRecord l = s.commitRecord l := by
  rw [State.commitRecord_eq, State.commitRecord_eq, State.commitChanges_of_lane base same, State.laneState, same, base.global]
  rfl

end

theorem State.commitRecord_unselected (s : State) (m : TriggerMask) (l : Lane) :
    ∀ r ∈ s.commitRecord l, m.selects r.2 = false := by
  rw [State.commitRecord_eq]
  split
  · rw [List.forall_mem_singleton]
    cases s.global.fitted.get l <;> simp [TriggerMask.selects]
  · exact List.forall_mem_nil _

section
variable {s : State} (apart : ∀ l, (s.laneState l).joined = false)
include apart

theorem State.commitLane_of_apart (l : Lane) :
    s.commitLane l =
      if s.commitChanges l then
        ((s.putLane l ((s.lane l).committed (s.global.fitted.get l))).emptyNotices l).submit (some l)
          (.lane (s.laneState l) (if s.global.fitted.get l = true then .down else .absent)
            (if s.global.fitted.get l = true then .fitted else .unfitted) (s.lane l).strikes)
      else s.putLane l ((s.lane l).committed (s.global.fitted.get l)) := by
  rw [State.commitLane_eq, commitChange_of_apart (apart l), State.commitChanges_eq]
  cases (s.laneState l != .absent) != s.global.fitted.get l <;> rfl

theorem State.commitLane_apart (l m : Lane) : ((s.commitLane l).laneState m).joined = false := by
  rw [State.laneState, State.lane_commitLane]
  split
  · exact LaneEntry.committed_apart (apart l) _
  · exact apart m

theorem State.commitLane_records (l : Lane) : s.Records (s.commitRecord l) (s.commitLane l) := by
  rw [State.commitLane_of_apart apart, State.commitRecord_eq]
  split
  · exact .of_submit (s := s) (t := (s.putLane l ((s.lane l).committed (s.global.fitted.get l))).emptyNotices l)
      ⟨rfl, rfl, rfl, rfl, rfl, rfl⟩ rfl _ _
  · exact .of_silent ⟨rfl, rfl, rfl, rfl, rfl, rfl⟩ rfl

/-- The notices of a lane at its own step of a commit: emptied where the lane changes (R144). -/
theorem State.box_commitLane (l m : Lane) :
    (s.commitLane l).nu.get m = if m = l ∧ s.commitChanges l then (s.nu.get l).emptied else s.nu.get m := by
  rw [State.commitLane_of_apart apart]
  split
  next changes =>
    have down : (((s.putLane l ((s.lane l).committed (s.global.fitted.get l))).emptyNotices l).laneState m).joined =
        false := by
      rw [State.laneState, State.emptyNotices_lane, State.lane_putLane]
      split
      · exact LaneEntry.committed_apart (apart l) _
      · exact apart m
    rw [((State.submit_follows _ _ _).apart m down).2, State.emptyNotices_nu, PerLane.get_set]
    simp [changes]
  next stays => simp [stays]

theorem State.commitLanes_records : s.Records ([Lane.a, .b, .c].flatMap s.commitRecord) s.commitLanes := by
  have apartA := s.commitLane_apart apart .a
  have b : (s.commitLane .a).commitRecord .b = s.commitRecord .b :=
    State.commitRecord_of_lane (s.commitLane_base .a) (by rw [State.lane_commitLane, if_neg (by decide)])
  have c : ((s.commitLane .a).commitLane .b).commitRecord .c = s.commitRecord .c :=
    State.commitRecord_of_lane ((s.commitLane_base .a).trans (State.commitLane_base _ .b)) (by
      rw [State.lane_commitLane, if_neg (by decide), State.lane_commitLane, if_neg (by decide)])
  have all := (State.commitLane_records apart .a).trans ((State.commitLane_records apartA .b).trans
    (State.commitLane_records (State.commitLane_apart apartA .b) .c))
  rw [b, c] at all
  simpa [State.commitLanes] using all

theorem State.box_commitLanes (m : Lane) :
    s.commitLanes.nu.get m = if s.commitChanges m then (s.nu.get m).emptied else s.nu.get m := by
  have apartA := s.commitLane_apart apart .a
  have b : (s.commitLane .a).commitChanges .b = s.commitChanges .b :=
    State.commitChanges_of_lane (s.commitLane_base .a) (by rw [State.lane_commitLane, if_neg (by decide)])
  have c : ((s.commitLane .a).commitLane .b).commitChanges .c = s.commitChanges .c :=
    State.commitChanges_of_lane ((s.commitLane_base .a).trans (State.commitLane_base _ .b)) (by
      rw [State.lane_commitLane, if_neg (by decide), State.lane_commitLane, if_neg (by decide)])
  rw [State.commitLanes, State.box_commitLane (State.commitLane_apart apartA .b)]
  cases m <;> simp [State.box_commitLane apartA, State.box_commitLane apart, b, c]

theorem State.commitLanes_apart (m : Lane) : (s.commitLanes.laneState m).joined = false := by
  rw [State.laneState, State.lane_commitLanes]
  exact LaneEntry.committed_apart (apart m) _

end

section
variable (s : State) (apart : ∀ l, (s.laneState l).joined = false)
include apart

/-- The records of a commit up to its re-evaluation of the safe condition (R90, R170). -/
theorem State.commitRecorded_records :
    s.imageCommitted.reinitPoints.Records
      ([Lane.a, .b, .c].flatMap s.imageCommitted.commitRecord ++
        [(none, .config s.cu.digest s.cu.staging.digest s.cu.staging.global.fitted (!s.cu.committed))])
      s.commitRecorded :=
  (State.commitLanes_records (s := s.imageCommitted.reinitPoints) apart).trans
    (.of_submit (.refl _) rfl _ _)

theorem State.commitRecorded_apart (m : Lane) : (s.commitRecorded.laneState m).joined = false := by
  rw [State.laneState, s.commitRecorded_rest.1]
  exact LaneEntry.committed_apart (apart m) _

theorem State.box_commitRecorded (m : Lane) :
    s.commitRecorded.nu.get m = if s.imageCommitted.commitChanges m then (s.nu.get m).emptied else s.nu.get m := by
  have lanes := State.box_commitLanes (s := s.imageCommitted.reinitPoints) apart m
  refine Eq.trans ?_ lanes
  exact ((State.submit_follows _ _ _).apart m (State.commitLanes_apart (s := s.imageCommitted.reinitPoints) apart m)).2

/-- No record of a commit triggers (R153, R170). -/
theorem State.commitRecorded_recording (recording : s.ij.state = .recording) :
    s.commitRecorded.ij.state = .recording := by
  rw [(s.commitRecorded_records apart).journal]
  refine Journal.submitAll_recording _ _ (fun r mem => ?_) recording
  obtain mem | mem := List.mem_append.mp mem
  · obtain ⟨l, -, mem⟩ := List.mem_flatMap.mp mem
    exact State.commitRecord_unselected _ _ _ r mem
  · rw [List.mem_singleton.mp mem]
    rfl

theorem State.commitRecorded_hasRecorded :
    s.HasRecorded
      ([Lane.a, .b, .c].flatMap s.imageCommitted.commitRecord ++
        [(none, .config s.cu.digest s.cu.staging.digest s.cu.staging.global.fitted (!s.cu.committed))])
      s.commitRecorded := by
  have few : ∀ l, (s.imageCommitted.commitRecord l).length ≤ 1 := fun l => State.commitRecord_few
  refine (s.commitRecorded_records apart).hasRecorded rfl rfl (by simp) ?_
  simp only [List.flatMap_cons, List.flatMap_nil, List.length_append, List.length_singleton, List.length_nil]
  have a := few .a
  have b := few .b
  have c := few .c
  omega

/-- A commit of a part in the safe condition with no lane joined leaves the condition as it is (R105, R170). -/
theorem State.commit_of_apart (sound : s.SafetySound) (config : s.cu.mode = .config) : s.commit = s.commitRecorded := by
  have cu := s.commitRecorded_rest.2.2.2.2.2.1
  have sc := s.commitRecorded_rest.2.2.2.2.1
  obtain ⟨flag, -, -, least⟩ := sound
  rw [State.commit_eq]
  refine State.reevaluate_of_settled none ?_
  rw [sc, flag.mpr (.inl config), State.safeShould_iff, State.memberCount_of_none_joined (s.commitRecorded_apart apart)]
  refine .inr ?_
  rw [State.global, cu]
  exact least

end

/-- Settles O53: the checks one by one, and the commit of a part with no lane joined. -/
theorem commitMakesTheStagingImageActive : Obligations.CommitMakesTheStagingImageActive := by
  refine ⟨fun i => ?_, fun tag payload s h => ⟨fun long => ?_, fun operate => ?_, fun item p config fails => ?_,
    fun config valid apart sound => ?_⟩⟩
  · have items := fun c : PointCfg => item_of_checks (by decide) c.voted_iff (c.within_iff i.global.fitted)
      (not_le (a := c.quorum)).symm c.safe_iff c.form_iff (x := pointItem i.global.fitted c) rfl
    have passes : ∀ p, i.passes p ↔ _ := fun p => imp_congr_right fun _ => (items (i.points.at p)).1
    obtain ⟨noItem, noLane, minMembers, ranks⟩ := globalItem_iff i.global
    dsimp only
    simp only [validateImage_eq_none_iff, validateImage_eq_global_iff, validateImage_eq_point_iff, noItem, noLane,
      minMembers, ranks, LaneSet.isEmpty_eq_false_iff, ranksDistinct_iff, passes]
    refine ⟨by simp only [and_assoc], trivial, trivial, trivial, fun p => ?_⟩
    obtain ⟨-, voted, within, quorate, safe, form⟩ := items (i.points.at p)
    rw [voted, within, quorate, safe, form]
    simp only [and_assoc, true_and]
  · refine exec_of_unchanged (kind := .cfgCommit) rfl nofun h ?_
    simp only [serveKind, serveCfgCommit, readNothing_eq_none long]
    rfl
  · refine exec_of_unchanged (kind := .cfgCommit) rfl nofun h ?_
    simp [serveKind, serveCfgCommit, readNothing, operate, State.refuse]
  · refine exec_of_unchanged (kind := .cfgCommit) rfl nofun h ?_
    simp [serveKind, serveCfgCommit, readNothing, config, fails]
  · obtain ⟨lanes, ve, du, au, sc, cu, time, lu⟩ := s.commitRecorded_rest
    have served : serveKind .cfgCommit .ml [] s = ⟨s.commitRecorded, .ok, .digest s.cu.staging.digest⟩ := by
      simp [serveKind, serveCfgCommit, readNothing, config, valid, State.commit_of_apart s apart sound config]
    have boxes := s.box_commitRecorded apart
    have recording := s.commitRecorded_recording apart
    have recorded := s.commitRecorded_hasRecorded apart
    generalize s.commitRecorded = t at *
    refine ⟨_, exec_of_serveKind (kind := .cfgCommit) rfl nofun h served (.inr ⟨time.symm, lu.symm⟩), cu, ⟨au, sc, time⟩,
      fun p => ⟨?_, ?_⟩, ?_, fun l => ⟨fun absent fits => ?_, fun present out => ⟨?_, ?_⟩, fun same => ⟨?_, ?_⟩⟩, ?_, ?_,
      State.replied_lu _ _ lu time⟩
    · change PerPoint.at t.ve p = _
      rw [ve, PerPoint.at_tabulate]
      rfl
    · change t.du.part p = _
      rw [du, DriveUnit.part_reinit]
      rfl
    · change t.du.queue = _ ∧ t.du.echoes = _ ∧ t.du.tagCounter = _
      rw [du]
      exact ⟨rfl, rfl, rfl⟩
    · have state : (s.lane l).state = .absent := absent
      change t.lane l = _
      rw [lanes, LaneEntry.committed_of_apart (apart l), state, fits]
      rfl
    · have state : ((s.lane l).state != .absent) = true := bne_iff_ne.mpr present
      change t.lane l = _
      rw [lanes, LaneEntry.committed_of_apart (apart l), state, out]
      rfl
    · have changes : s.imageCommitted.commitChanges l = true :=
        State.commitChanges_iff.mpr fun same => present (same.mpr out)
      change (t.nu.get l).queue = [] ∧ (t.nu.get l).lost = 0
      rw [boxes, if_pos changes]
      exact ⟨rfl, rfl⟩
    · change t.lane l = _
      rw [lanes, LaneEntry.committed_of_apart (apart l)]
      exact if_neg fun changes => State.commitChanges_iff (s := s.imageCommitted).mp changes same
    · change t.nu.get l = _
      rw [boxes]
      exact if_neg fun changes => State.commitChanges_iff.mp changes same
    · exact recording
    · dsimp only
      rw [List.map_filter_eq_flatMap]
      exact recorded

end Sys2Proof.Machine

/-! What a closing decides: the median of three, the outcomes of both modes, and the verdicts by role (R43 to R55). -/

namespace Sys2Proof.Machine

/-! ### Ordering by value -/

theorem insertByValue_perm (p : Proposal) (ps : List Proposal) : (insertByValue p ps).Perm (p :: ps) := by
  induction ps with
  | nil => exact .refl _
  | cons q rest ih =>
    rw [insertByValue]
    split
    · exact (ih.cons q).trans (.swap p q rest)
    · exact .refl _

theorem foldl_insertByValue_perm (ps sorted : List Proposal) :
    (ps.foldl (fun acc p => insertByValue p acc) sorted).Perm (sorted ++ ps) := by
  induction ps generalizing sorted with
  | nil => rw [List.append_nil]; exact .refl _
  | cons p rest ih =>
    rw [List.foldl_cons]
    exact (ih _).trans (((insertByValue_perm p sorted).append_right rest).trans List.perm_middle.symm)

theorem orderByValue_perm (ps : List Proposal) : (orderByValue ps).Perm ps := foldl_insertByValue_perm ps []

/-- A list of proposals lowest value first. -/
def byValue (ps : List Proposal) : Prop := ps.Pairwise fun p q => p.value.toInt ≤ q.value.toInt

theorem insertByValue_byValue (p : Proposal) {ps : List Proposal} (h : byValue ps) : byValue (insertByValue p ps) := by
  induction ps with
  | nil => exact List.pairwise_singleton _ _
  | cons q rest ih =>
    obtain ⟨least, later⟩ := List.pairwise_cons.mp h
    rw [insertByValue]
    split
    next below =>
      refine List.pairwise_cons.mpr ⟨fun r mem => ?_, ih later⟩
      obtain rfl | mem := List.mem_cons.mp ((insertByValue_perm p rest).mem_iff.mp mem)
      · exact below
      · exact least r mem
    next above =>
      refine List.pairwise_cons.mpr ⟨fun r mem => ?_, h⟩
      obtain rfl | mem := List.mem_cons.mp mem
      · exact (Int.not_le.mp above).le
      · exact (Int.not_le.mp above).le.trans (least r mem)

theorem orderByValue_byValue (ps : List Proposal) : byValue (orderByValue ps) :=
  List.foldlRecOn (motive := byValue) ps _ List.Pairwise.nil fun _ h p _ => insertByValue_byValue p h

/-- The reference value of three proposals stands in the middle of them in order (R44). -/
theorem referenceValue_of_three {counted : List Proposal} (three : counted.length = 3) :
    ∃ a m c, referenceValue counted = some m.value ∧ [a, m, c].Perm counted ∧ a.value.toInt ≤ m.value.toInt ∧
      m.value.toInt ≤ c.value.toInt := by
  have length := (length_orderByValue counted).trans three
  have perm := orderByValue_perm counted
  have sorted := orderByValue_byValue counted
  obtain ⟨a, m, c, ordered⟩ := List.length_eq_three.mp length
  rw [ordered] at perm sorted
  obtain ⟨first, rest⟩ := List.pairwise_cons.mp sorted
  refine ⟨a, m, c, by rw [referenceValue, ordered], perm, first m (by simp), ?_⟩
  exact (List.pairwise_cons.mp rest).1 c (by simp)

theorem referenceValue_mem {counted : List Proposal} {v : Value} (h : referenceValue counted = some v) :
    ∃ q ∈ counted, q.value = v := by
  have three : counted.length = 3 := by
    by_contra ne
    rw [referenceValue_eq_none ne] at h
    cases h
  obtain ⟨a, m, c, found, perm, -, -⟩ := referenceValue_of_three three
  rw [h] at found
  exact ⟨m, perm.subset (by simp), (Option.some.inj found).symm⟩

theorem agree_self (cfg : PointCfg) (v : Value) : agree cfg v v = true := by
  unfold agree
  split <;> simp [distance]

theorem agree_iff (cfg : PointCfg) (v w : Value) :
    agree cfg v w = true ↔
      (cfg.kind = .discrete → v = w) ∧ (cfg.kind = .level → (v.toInt - w.toInt).natAbs ≤ cfg.tolerance) := by
  unfold agree
  split
  next kind => simp [kind]
  next kind => rw [decide_eq_true_eq]; simp [kind, distance]

/-! ### The holder's value, a lane's value -/

section
variable {ps : List Proposal} {q : Proposal}

theorem find?_lane_of_mem (nodup : (ps.map Proposal.lane).Nodup) (mem : q ∈ ps) :
    ps.find? (fun p => p.lane == q.lane) = some q := by
  induction ps with
  | nil => cases mem
  | cons p rest ih =>
    obtain ⟨fresh, later⟩ := List.nodup_cons.mp nodup
    obtain rfl | mem := List.mem_cons.mp mem
    · simp
    · have other : p.lane ≠ q.lane := fun same => fresh (same ▸ List.mem_map_of_mem mem)
      rw [List.find?_cons_of_neg (by simpa using other)]
      exact ih later mem

theorem holderValue_of_mem (nodup : (ps.map Proposal.lane).Nodup) (mem : q ∈ ps) :
    holderValue ps (some q.lane) = some q.value := by
  rw [holderValue, find?_lane_of_mem nodup mem]
  rfl

theorem holderValue_of_absent {holder : Option Lane} (absent : ∀ q ∈ ps, holder ≠ some q.lane) :
    holderValue ps holder = none := by
  unfold holderValue
  split
  · rfl
  next h =>
    rw [List.find?_eq_none.mpr fun p mem same => absent p mem (by rw [beq_iff_eq.mp same])]
    rfl

theorem holderValue_mem {holder : Option Lane} {v : Value} (held : holderValue ps holder = some v) :
    ∃ q ∈ ps, q.value = v := by
  unfold holderValue at held
  split at held
  · cases held
  · obtain ⟨q, found, value⟩ := Option.map_eq_some_iff.mp held
    exact ⟨q, List.mem_of_find?_eq_some found, value⟩

theorem Slot.valueOf_of_mem {x : Slot} (nodup : (x.proposals.map Proposal.lane).Nodup) (mem : q ∈ x.proposals) :
    x.valueOf q.lane = some q.value := by
  rw [Slot.valueOf, find?_lane_of_mem nodup mem]
  rfl

theorem Slot.valueOf_of_silent {x : Slot} {l : Lane} (silent : ∀ q ∈ x.proposals, q.lane ≠ l) :
    x.valueOf l = none := by
  rw [Slot.valueOf, List.find?_eq_none.mpr fun p mem same => silent p mem (beq_iff_eq.mp same)]
  rfl

end

/-! ### The outcomes of both modes -/

section
variable {cfg : PointCfg} {counted : List Proposal} {held : Option Value} {v : Value}

theorem splitOutcome_decided (h : (splitOutcome held).2 = some v) : held = some v := by
  unfold splitOutcome at h
  split at h
  · exact h
  · cases h

/-- A value decided in MAJORITY mode is the median, the nearer of two, the single one, or the holder's (R51, R52). -/
theorem majorityOutcome_decided (heard : ∀ w, held = some w → ∃ q ∈ counted, q.value = w)
    (h : (majorityOutcome cfg counted held).2 = some v) : ∃ q ∈ counted, q.value = v := by
  unfold majorityOutcome at h
  split at h
  next m median =>
    have mem := referenceValue_mem median
    split_ifs at h
    · exact Option.some.inj h ▸ mem
    · exact Option.some.inj h ▸ mem
    · exact heard v (splitOutcome_decided h)
  next =>
    split at h
    next x y _ =>
      split_ifs at h
      · obtain same | same := nearerSafe_eq_or cfg.safe x.value y.value
        · exact ⟨x, by simp, by rw [← Option.some.inj h, same]⟩
        · exact ⟨y, by simp, by rw [← Option.some.inj h, same]⟩
      · exact heard v (splitOutcome_decided h)
    next x _ => exact ⟨x, by simp, Option.some.inj h⟩
    next => exact heard v (splitOutcome_decided h)

theorem authorityOutcome_decided (h : (authorityOutcome cfg counted held).2 = some v) : held = some v := by
  unfold authorityOutcome at h
  split at h
  · cases h
  · split_ifs at h <;> exact h

theorem decideOutcome_of_authority (holder : Option Lane) (nonempty : counted ≠ [])
    (quorum : cfg.quorum ≤ counted.length) (mode : cfg.mode = .authority) :
    decideOutcome cfg counted holder = authorityOutcome cfg counted (holderValue counted holder) := by
  have not_empty : counted.length ≠ 0 := mt List.eq_nil_of_length_eq_zero nonempty
  rw [decideOutcome, if_neg not_empty, if_neg (Nat.not_lt.mpr quorum), mode]

theorem decideOutcome_decided {holder : Option Lane} (h : (decideOutcome cfg counted holder).2 = some v) :
    ∃ q ∈ counted, q.value = v := by
  unfold decideOutcome at h
  split at h
  · cases h
  split at h
  · cases h
  · split at h
    · exact majorityOutcome_decided (fun w => holderValue_mem) h
    · exact holderValue_mem (authorityOutcome_decided h)

end

/-- Settles O24: what the holder's counted value is, and the branches of Tables 3.4 and 3.5. -/
theorem decidedValueWasCounted : Obligations.DecidedValueWasCounted := by
  intro cfg counted holder
  dsimp only
  refine ⟨fun v => decideOutcome_decided, fun none' => ?_, fun some' few => ?_, fun quorum majority =>
    ⟨fun x single => ?_, fun x y pair disagree => ⟨fun absent => ?_, fun holds => ?_, fun holds ne => ?_⟩⟩,
    fun some' quorum authority => ⟨fun absent => ?_, fun q mem holds nodup => ⟨fun all => ?_, fun some'' => ?_⟩⟩⟩
  · rw [none']
    rfl
  · have not_empty : counted.length ≠ 0 := mt List.eq_nil_of_length_eq_zero some'
    rw [decideOutcome, if_neg not_empty, if_pos few]
  · subst single
    rw [decideOutcome_of_majority holder (List.cons_ne_nil _ _) quorum majority, majorityOutcome,
      referenceValue_eq_none (by simp)]
  · subst pair
    rw [decideOutcome_of_majority holder (List.cons_ne_nil _ _) quorum majority, majorityOutcome_pair, disagree,
      holderValue_of_absent absent]
    rfl
  · subst pair
    have held : holderValue [x, y] holder = some x.value := by simp [holds, holderValue]
    rw [decideOutcome_of_majority holder (List.cons_ne_nil _ _) quorum majority, majorityOutcome_pair, disagree, held]
    rfl
  · subst pair
    have held : holderValue [x, y] holder = some y.value := by simp [holds, holderValue, ne]
    rw [decideOutcome_of_majority holder (List.cons_ne_nil _ _) quorum majority, majorityOutcome_pair, disagree, held]
    rfl
  · rw [decideOutcome_of_authority holder some' quorum authority, holderValue_of_absent absent]
    rfl
  · rw [decideOutcome_of_authority holder some' quorum authority, holds, holderValue_of_mem nodup mem]
    exact if_pos (List.all_eq_true.mpr all)
  · obtain ⟨r, memR, disagree⟩ := some''
    rw [decideOutcome_of_authority holder some' quorum authority, holds, holderValue_of_mem nodup mem]
    refine if_neg fun all => ?_
    rw [List.all_eq_true.mp all r memR] at disagree
    cases disagree

/-! ### The verdicts by role -/

/-- The scoring looks at a point's kind and tolerance alone (R49). -/
theorem countedVerdict_congr {c d : PointCfg} (same : agree c = agree d) : countedVerdict c = countedVerdict d := by
  funext counted v
  unfold countedVerdict agreeCount
  rw [same]

theorem agree_congr {c d : PointCfg} (kind : c.kind = d.kind) (tolerance : c.tolerance = d.tolerance) :
    agree c = agree d := by
  funext v w
  rw [agree, agree, kind, tolerance]

section
variable {i : ClosingInput} {l : Lane} {d : Option Value}

theorem laneVerdict_of_member (member : i.lanes.get l = .member) :
    laneVerdict i d l =
      (i.slot.valueOf l).elim (if i.cause = .expired ∧ i.slot.roll.get l = true then some .strikeMissed else none)
        (countedVerdict i.cfg i.counted) := by
  rw [laneVerdict, member]
  cases i.slot.valueOf l <;> rfl

theorem laneVerdict_of_probation (probation : i.lanes.get l = .probation) :
    laneVerdict i d l = (i.slot.valueOf l).bind (observerVerdict i.cfg d) := by
  rw [laneVerdict, probation]
  cases i.slot.valueOf l <;> rfl

theorem laneVerdict_of_apart (apart : (i.lanes.get l).joined = false) : laneVerdict i d l = none := by
  unfold laneVerdict
  cases state : i.lanes.get l with
  | probation => rw [state] at apart; cases apart
  | member => rw [state] at apart; cases apart
  | absent => rfl
  | down => rfl
  | excluded => rfl

end

/-- Settles O26: the verdict's branches, with the value a lane's proposal gives. -/
theorem scoringIgnoresModeAndHolder : Obligations.ScoringIgnoresModeAndHolder := by
  refine ⟨fun i j l d e slot cause lanes kind tolerance member => ?_, fun cfg x => ?_, fun i l d nodup =>
    ⟨laneVerdict_of_apart, fun member silent => ?_, fun probation silent => ?_, fun q mem here =>
      ⟨fun member => ?_, fun probation => ⟨fun undecided => ?_, fun w decided => ?_⟩⟩⟩⟩
  · have heard : i.counted = j.counted := by rw [ClosingInput.counted, ClosingInput.counted, slot, lanes]
    rw [laneVerdict_of_member member, laneVerdict_of_member (lanes ▸ member), slot, cause, heard,
      countedVerdict_congr (agree_congr kind tolerance)]
  · rw [countedVerdict, referenceValue_eq_none (by simp)]
    nofun
  · rw [laneVerdict_of_member member, Slot.valueOf_of_silent silent]
    rfl
  · rw [laneVerdict_of_probation probation, Slot.valueOf_of_silent silent]
    rfl
  · subst here
    rw [laneVerdict_of_member member, Slot.valueOf_of_mem nodup mem]
    rfl
  · subst here
    rw [laneVerdict_of_probation probation, Slot.valueOf_of_mem nodup mem, undecided]
    rfl
  · subst here
    rw [laneVerdict_of_probation probation, Slot.valueOf_of_mem nodup mem, decided]
    exact apply_ite some _ _ _

/-! ### Three counted proposals -/

/-- Of a list mapped to two values by a test, how many are the one and how many the other. -/
theorem List.count_map_ite {α β : Type} [BEq β] [LawfulBEq β] {a b : β} (ne : a ≠ b) (p : α → Bool) (xs : List α) :
    (xs.map fun x => if p x = true then a else b).count a = (xs.filter p).length ∧
      (xs.map fun x => if p x = true then a else b).count b + (xs.filter p).length = xs.length := by
  induction xs with
  | nil => exact ⟨rfl, rfl⟩
  | cons x rest ih =>
    cases here : p x with
    | true => simp [here, ih.1, ← ih.2, ne, Nat.add_assoc]
    | false => simp [here, ih.1, ← ih.2, ne.symm]; omega

section
variable {cfg : PointCfg} {counted : List Proposal} {m : Value}

theorem countedVerdict_of_median (median : referenceValue counted = some m) (v : Value) :
    countedVerdict cfg counted v =
      if 2 ≤ agreeCount cfg counted m then if agree cfg v m = true then some .cleanVote else some .strikeMiscompare
      else none := by
  unfold countedVerdict
  rw [median]

/-- The clean votes and the strikes among three verdicts, by how many values agree with the median (Table 3.2). -/
theorem verdicts_of_median (median : referenceValue counted = some m) :
    (counted.map fun q => countedVerdict cfg counted q.value).count (some .cleanVote) =
        (if 2 ≤ agreeCount cfg counted m then agreeCount cfg counted m else 0) ∧
      (counted.map fun q => countedVerdict cfg counted q.value).count (some .strikeMiscompare) =
        (if 2 ≤ agreeCount cfg counted m then counted.length - agreeCount cfg counted m else 0) := by
  simp only [countedVerdict_of_median median]
  split
  next =>
    obtain ⟨clean, struck⟩ := List.count_map_ite (show some Verdict.cleanVote ≠ some .strikeMiscompare by decide)
      (fun q => agree cfg q.value m) counted
    refine ⟨clean, ?_⟩
    unfold agreeCount
    omega
  next => simp [List.count_replicate]

end

section
variable {cfg : PointCfg} {counted : List Proposal} {m : Value} {held : Option Value}

theorem majorityOutcome_of_median (median : referenceValue counted = some m) :
    majorityOutcome cfg counted held =
      if agreeCount cfg counted m = 3 then (.unanimous, some m)
      else if agreeCount cfg counted m = 2 then (.majority, some m)
      else splitOutcome held := by
  unfold majorityOutcome
  rw [median]

theorem splitOutcome_fst : (splitOutcome held).1 = .holderDecided ∨ (splitOutcome held).1 = .split := by
  cases held with
  | none => exact .inr rfl
  | some v => exact .inl rfl

theorem majorityOutcome_unanimous_iff (median : referenceValue counted = some m) :
    (majorityOutcome cfg counted held).1 = .unanimous ↔ agreeCount cfg counted m = 3 := by
  have split := splitOutcome_fst (held := held)
  rw [majorityOutcome_of_median median]
  split_ifs with all two
  · exact iff_of_true rfl all
  · exact iff_of_false nofun all
  · refine iff_of_false (fun same => ?_) all
    rw [same] at split
    simp at split

theorem majorityOutcome_majority_iff (median : referenceValue counted = some m) :
    (majorityOutcome cfg counted held).1 = .majority ↔ agreeCount cfg counted m = 2 := by
  have split := splitOutcome_fst (held := held)
  rw [majorityOutcome_of_median median]
  split_ifs with all two
  · exact iff_of_false nofun (by omega)
  · exact iff_of_true rfl two
  · refine iff_of_false (fun same => ?_) two
    rw [same] at split
    simp at split

/-- The median is a counted value and agrees with itself. -/
theorem one_le_agreeCount (mem : m ∈ counted.map Proposal.value) : 1 ≤ agreeCount cfg counted m := by
  obtain ⟨q, memQ, rfl⟩ := List.mem_map.mp mem
  exact List.length_pos_of_mem (List.mem_filter.mpr ⟨memQ, agree_self cfg q.value⟩)

end

/-- Settles O23: the three stand in order around their median, and each count of agreeing values has its branch. -/
theorem outcomeFollowsTheScoring : Obligations.OutcomeFollowsTheScoring := by
  refine ⟨fun cfg v w => ?_, fun cfg x y z holder majority quorum => ?_⟩
  · unfold agree distance
    cases cfg.kind <;> simp
  · obtain ⟨a, m, c, median, perm, low, high⟩ := referenceValue_of_three (counted := [x, y, z]) rfl
    have values := perm.map Proposal.value
    obtain ⟨clean, struck⟩ := verdicts_of_median (cfg := cfg) median
    have outcome := decideOutcome_of_majority holder (List.cons_ne_nil x [y, z]) quorum majority
    have agreeing : (([x, y, z].map Proposal.value).filter fun v => agree cfg v m.value).length =
        agreeCount cfg [x, y, z] m.value := by
      rw [agreeCount, List.filter_map, List.length_map]
      rfl
    dsimp only
    rw [clean, struck, outcome]
    have mem : m.value ∈ [x, y, z].map Proposal.value := values.subset (by simp)
    have some' := one_le_agreeCount (cfg := cfg) mem
    have few : agreeCount cfg [x, y, z] m.value ≤ 3 := List.length_filter_le _ [x, y, z]
    refine ⟨?_, ?_, m.value, mem, ?_, ?_, fun v _ => ?_, fun all => ?_, fun two => ?_, fun one => ⟨fun q memQ holds nodup =>
      ?_, fun absent => ?_⟩, ?_⟩
    · rw [majorityOutcome_unanimous_iff median]
      split <;> omega
    · rw [majorityOutcome_majority_iff median]
      simp only [List.length_cons, List.length_nil]
      split <;> omega
    · rw [← (values.filter _).length_eq]
      simp only [List.map_cons, List.map_nil, List.filter_cons, low, le_refl, decide_true, if_true]
      exact Nat.le_add_left 2 _
    · rw [← (values.filter _).length_eq]
      simp only [List.map_cons, List.map_nil, List.filter_cons, high, le_refl, decide_true, if_true]
      split <;> simp
    · rw [agreeing, countedVerdict_of_median median]
    · rw [agreeing] at all
      rw [majorityOutcome_of_median median, if_pos all]
    · rw [agreeing] at two
      rw [majorityOutcome_of_median median, if_neg (by omega), if_pos two]
    · rw [agreeing] at one
      rw [majorityOutcome_of_median median, if_neg (by omega), if_neg (by omega), holds, holderValue_of_mem nodup memQ]
      rfl
    · rw [agreeing] at one
      rw [majorityOutcome_of_median median, if_neg (by omega), if_neg (by omega), holderValue_of_absent absent]
      rfl
    · rw [agreeing]
      exact some'

end Sys2Proof.Machine

/-! A FAULTED point stays FAULTED (R118, R129): only POINT_CLEAR, a commit, a restart and a power-on set it otherwise. -/

namespace Sys2Proof.Machine

/-- The request kinds that set a FAULTED point's drive part otherwise. -/
def ReqKind.revives : ReqKind → Bool
  | .pointClear => true
  | .cfgCommit => true
  | .restart => true
  | _ => false

/-- A FAULTED drive part that differs from `x` at most in its target. -/
structure DrivePart.FaultedAs (x y : DrivePart) : Prop where
  status : y.status = .faulted
  confirmed : y.confirmed = x.confirmed
  budget : y.budget = x.budget
  lastTag : y.lastTag = x.lastTag

/-- The drive unit is sound and point `p` FAULTED as `x` was. -/
def State.StaysFaulted (p : Fin 64) (x : DrivePart) (s : State) : Prop :=
  s.DriveSound ∧ x.FaultedAs (s.driveOf p)

theorem DriveUnit.part_handOff_of_ne {d : DriveUnit} {p q : Fin 64} (retries : Nat) (v : Value) (other : p ≠ q) :
    (d.handOff retries q v).part p = d.part p := by
  unfold DriveUnit.handOff
  dsimp only
  split
  · rw [DriveUnit.part_putPart, if_neg other]
  · split
    · rfl
    · rw [DriveUnit.part_enqueue, if_neg other]
  · rw [DriveUnit.part_putPart, if_neg other]
  · rw [DriveUnit.part_putPart, if_neg other]

section
variable {p : Fin 64} {x : DrivePart}

/-- A hand-off changes a FAULTED point's target alone, and only that of its own point (Table 7.2). -/
theorem DrivePart.FaultedAs.handOff {d : DriveUnit} (h : x.FaultedAs (d.part p)) (retries : Nat) (q : Fin 64) (v : Value) :
    x.FaultedAs ((d.handOff retries q v).part p) := by
  by_cases here : p = q
  · subst here
    rw [DriveUnit.handOff_of_faulted retries p v d h.status, DriveUnit.part_putPart, if_pos rfl]
    exact ⟨h.status, h.confirmed, h.budget, h.lastTag⟩
  · rw [DriveUnit.part_handOff_of_ne retries v here]
    exact h

theorem DrivePart.FaultedAs.reevaluate {s u : State} (h : x.FaultedAs (s.driveOf p)) (du : u.du = s.du)
    (sub : Option Lane) : x.FaultedAs ((u.reevaluate sub).driveOf p) := by
  obtain ⟨-, -, -, -, -, -, -, handed⟩ := u.reevaluate_spec sub
  have before : x.FaultedAs (u.du.part p) := du ▸ h
  change x.FaultedAs ((u.reevaluate sub).du.part p)
  rw [handed]
  split
  · rw [(u.du.part_handSafeValues u.cu.active p).2 (.inr before.status)]
    exact before
  · exact before

theorem DrivePart.FaultedAs.changeLane {s : State} (h : x.FaultedAs (s.driveOf p)) (l : Lane) (new : LaneState)
    (cause : LaneCause) : x.FaultedAs ((s.changeLane l new cause).driveOf p) := by
  obtain ⟨u, result, -, du, -⟩ := s.changeLane_reevaluates l new cause
  rw [result]
  exact h.reevaluate du (some l)

theorem staysFaulted_kept : Kept (fun k => k.revives = false) (State.StaysFaulted p x) := by
  refine Kept.of_voteless (fun s p v h => h) fun s t change h => ⟨driveSound_kept.change s t change h.1, ?_⟩
  obtain ⟨sound, still⟩ := h
  have of_du : ∀ t : State, t.du = s.du → x.FaultedAs (t.driveOf p) := fun t du => by
    change x.FaultedAs (t.du.part p)
    rw [du]
    exact still
  cases change with
  | consequence c =>
    cases c with
    | submit sub b => exact of_du _ (s.submit_du sub b)
    | notify => exact still
    | handOff q v => exact DrivePart.FaultedAs.handOff (d := s.du) still _ q v
    | counts => exact still
    | move l e new cause may =>
      exact State.moved_keeps (Q := fun u => x.FaultedAs (u.driveOf p))
        (fun u l new cause _ _ _ hu => hu.changeLane l new cause) may still
  | tick => exact still
  | links => exact still
  | sent => exact still
  | slots => exact still
  | claim =>
    obtain ⟨-, -, -, -, du, -⟩ := s.changeHolder_spec _ _ _ _
    exact of_du _ du
  | queueClaim => exact still
  | yield =>
    obtain ⟨-, -, -, -, du, -⟩ := s.changeHolder_spec _ _ _ _
    exact of_du _ du
  | withdraw => exact still
  | drive du _ faulted =>
    have same := faulted sound p still.status
    change x.FaultedAs (du.part p)
    rw [same]
    exact still
  | clear q _ allowed => cases allowed
  | vote => exact still
  | endVote => exact still
  | restart kind voters _ allowed => cases allowed
  | rearm => exact still
  | openSession => exact still.reevaluate (by rfl) none
  | write => exact still
  | abort => exact still.reevaluate (by rfl) none
  | commit _ _ allowed => cases allowed

end

/-! ### The commands that carry such a request -/

theorem code_of_requestKind {code : Byte} {kind : ReqKind} (h : requestKind code = some kind) : kind.code = code :=
  beq_iff_eq.mp (List.find?_some (p := fun k : ReqKind => k.code == code) h)

/-- A request whose code is none of the three does not revive a point. -/
theorem revives_of_code {code : Byte} (other : code ≠ 0x51 ∧ code ≠ 0x73 ∧ code ≠ 0x40) (kind : ReqKind)
    (known : requestKind code = some kind) : kind.revives = false := by
  have code := code_of_requestKind known
  obtain ⟨clear, commit, restart⟩ := other
  cases kind with
  | pointClear => exact absurd code.symm clear
  | cfgCommit => exact absurd code.symm commit
  | restart => exact absurd code.symm restart
  | _ => rfl

/-- Settles O47: every change but the three keeps a FAULTED part's status, confirmed value, budget and last tag. -/
theorem faultedPointStaysFaulted : Obligations.FaultedPointStaysFaulted := by
  intro c p s t sound waiting faulted notClear notRestart notAssert notRelease next
  have known : ∀ link r, c.request? = some (link, r) → ∀ kind, requestKind r.kind = some kind → kind.revives = false := by
    intro link r request kind
    cases c with
    | pointClear l t p => exact absurd rfl (notClear l t p).1
    | cfgCommit l t p => exact absurd rfl (notClear l t p).2
    | restart n t p => exact absurd rfl (notRestart n t p).1
    | maintenanceRestart t p => exact absurd rfl (notRestart .a t p).2
    | badKind l code t p =>
      intro found
      rw [Instr.request?] at request
      split at request
      next unknown =>
        cases request
        rw [found] at unknown
        cases unknown
      next => cases request
    | _ => cases request <;> exact revives_of_code (by simp) kind
  obtain ⟨-, still⟩ := (staysFaulted_kept (p := p) (x := s.driveOf p)).exec notAssert notRelease known
    (fun link r mem => revives_of_code (waiting link.link r mem)) ⟨sound, faulted, rfl, rfl, rfl⟩ next
  exact ⟨still.status, still.confirmed, still.budget, still.lastTag⟩

end Sys2Proof.Machine

/-! ECHO (R123 to R129): the entry it names is confirmed or has failed, and an ECHO without an entry is stray. -/

namespace Sys2Proof.Machine

theorem readEcho_done (b : Byte) (r : Value) : readEcho ([b, 0] ++ be16 r) = some (b, .done, some r) :=
  congrArg (fun v => some (b, EchoStatus.done, some v)) (from16_extract r)

theorem val_of_pointOf {b : Byte} {p : Fin 64} (h : pointOf b = some p) : p.val = b.toNat := by
  unfold pointOf at h
  split at h
  · rw [← Option.some.inj h]
  · cases h

theorem readEcho_rejected (b : Byte) : readEcho [b, 1] = some (b, .rejected, none) := rfl

section
variable {s : State} {tag b : Byte} {payload : List Byte} {status : EchoStatus} {readback : Option Value}

/-- An ECHO on an enabled drive link with a free buffer is taken by the Drive Unit (R123). -/
theorem exec_echo (high : s.resetN = .high) (up : (s.link .dl).state.up = true) (room : (s.link .dl).waiting.length < 4)
    (read : readEcho payload = some (b, status, readback)) :
    exec (.echo tag payload) s = .next ((s.frameHeard .dl).takeEcho b tag status readback) := by
  refine (State.whenPowered_of_high _ high).trans ?_
  rw [s.withFrame_of_room _ up room, read]

theorem exec_echoDeadline {p : Fin 64} {e : EchoEntry} (high : s.resetN = .high) (entry : s.du.entryOf p tag = some e) :
    exec (.echoDeadline p tag) s =
      .next (if timeReached s.time e.deadline = true then s.failApply e .timeout none else s) := by
  have run : exec (.echoDeadline p tag) s = execEchoDeadline p tag s := rfl
  rw [run, execEchoDeadline, State.whenPowered_of_high _ high, entry]

theorem State.takeEcho_of_entry {p : Fin 64} {e : EchoEntry} (at_ : b.toNat = p.val) (entry : s.du.entryOf p tag = some e) :
    s.takeEcho b tag status readback = s.settleEcho e status readback := by
  rw [State.takeEcho, pointOf_of_val at_, Option.bind_some, entry]

theorem State.takeEcho_of_stray (stray : ∀ e ∈ s.du.echoes, ¬ (e.point.val = b.toNat ∧ e.tag = tag)) :
    s.takeEcho b tag status readback = s.submit none (.strayEcho b tag status readback) := by
  have none' : ((pointOf b).bind fun p => s.du.entryOf p tag) = none := by
    refine Option.bind_eq_none_iff.mpr fun p at_ => List.find?_eq_none.mpr fun e mem same => ?_
    simp only [Bool.and_eq_true, beq_iff_eq] at same
    obtain ⟨point, tag'⟩ := same
    refine stray e mem ⟨?_, tag'⟩
    rw [point, val_of_pointOf at_]
  rw [State.takeEcho, none']

end

/-- Settles O45: the two ways of an ECHO through the Drive Unit. -/
theorem echoConfirmsOrIsStray : Obligations.EchoConfirmsOrIsStray := by
  intro tag b r s high up room
  refine ⟨fun p e at_ entry agrees => ?_, fun stray => ⟨?_, ?_⟩⟩
  · obtain ⟨-, rfl, rfl⟩ := DriveUnit.entryOf_eq_some entry
    have settled : (s.frameHeard .dl).settleEcho e .done (some r) =
        { s.frameHeard .dl with du := s.du.confirm e } := if_pos agrees
    rw [exec_echo high up room (readEcho_done b r), State.takeEcho_of_entry (s := s.frameHeard .dl) at_ entry, settled]
    rfl
  · rw [exec_echo high up room (readEcho_done b r), State.takeEcho_of_stray (s := s.frameHeard .dl) stray]
  · rw [exec_echo high up room (readEcho_rejected b), State.takeEcho_of_stray (s := s.frameHeard .dl) stray]

/-- Settles O46: each cause of a failure comes to the same failure of the entry. -/
theorem applyFailureRetriesOrFaults : Obligations.ApplyFailureRetriesOrFaults := by
  intro p tag e s high entry
  obtain ⟨-, rfl, rfl⟩ := DriveUnit.entryOf_eq_some entry
  have at_ : (BitVec.ofNat 8 e.point.val).toNat = e.point.val := by
    have := e.point.isLt
    simp only [BitVec.toNat_ofNat]
    omega
  refine ⟨fun reached => ?_, fun notReached => ?_, fun up room => ⟨?_, fun r disagrees => ?_⟩⟩
  · rw [exec_echoDeadline high entry, if_pos reached]
    rfl
  · rw [exec_echoDeadline high entry, if_neg (by rw [notReached]; nofun)]
  · rw [exec_echo high up room (readEcho_rejected _), State.takeEcho_of_entry (s := s.frameHeard .dl) at_ entry]
    rfl
  · have settled : (s.frameHeard .dl).settleEcho e .done (some r) =
        (s.frameHeard .dl).failApply e .mismatch (some r) := if_neg (Bool.not_eq_true _ ▸ disagrees)
    rw [exec_echo high up room (readEcho_done _ r), State.takeEcho_of_entry (s := s.frameHeard .dl) at_ entry, settled]
    rfl

end Sys2Proof.Machine

/-! The link units' operations: how a link comes up, is enabled and disabled (R175 to R179), how a link error takes it and
its lane down (R183), and how frames are received and sent (R136, R137, R146 to R148, R180 to R182). -/

namespace Sys2Proof.Machine

/-! ### The entry to OFF -/

section
variable {s : State} {l : Link}

/-- A link that falls in READY, or whose lane is not joined, takes no lane with it (R85, R183). -/
theorem State.linkDown_of_apart (cause : LinkCause) (up : (s.link l).state.up = true)
    (apart : (s.link l).state = .ready ∨ ∀ n, l.lane? = some n → (s.laneState n).joined = false) :
    s.linkDown l cause =
      (s.putLink l ((s.link l).fallen s.time)).submit l.lane? (.link l (s.link l).state .off cause) := by
  have still : (if (s.link l).state = .run then (s.putLink l ((s.link l).fallen s.time)).linkLost l
      else s.putLink l ((s.link l).fallen s.time)) = s.putLink l ((s.link l).fallen s.time) := by
    split
    next run =>
      have apart' := apart.resolve_left (by rw [run]; nofun)
      unfold State.linkLost
      split
      next n lane => exact State.depart_of_apart _ (apart' n lane)
      next => rfl
    next => rfl
  rw [State.linkDown]
  dsimp only
  rw [if_pos up, LinkUnit.toOff_eq_fallen, still]

/-- A joined lane whose link falls in RUN departs before the LINK record is made (R85, R183). -/
theorem State.linkDown_of_lane {n : Lane} (cause : LinkCause) (lane : l.lane? = some n) (run : (s.link l).state = .run) :
    s.linkDown l cause =
      ((s.putLink l ((s.link l).fallen s.time)).depart n .linkLost).submit (some n) (.link l .run .off cause) := by
  have up : (s.link l).state.up = true := by rw [run]; rfl
  rw [State.linkDown]
  dsimp only
  rw [if_pos up, if_pos run, LinkUnit.toOff_eq_fallen, State.linkLost, lane, run]

end

theorem timerDue_iff {now : Time} {timer : Option Time} :
    timerDue now timer = true ↔ ∃ d, timer = some d ∧ timeReached now d = true := by
  cases timer with
  | none => exact iff_of_false nofun nofun
  | some d => exact ⟨fun reached => ⟨d, rfl, reached⟩, fun ⟨e, same, reached⟩ => Option.some.inj same ▸ reached⟩

/-! ### How a link comes up -/

section
variable {s : State} {l : Link} {n : Lane}

theorem State.idleReceived_of_up (up : (s.link l).state.up = true) :
    s.idleReceived l = s.putLink l { s.link l with silence := some (s.time + 1) } := by
  unfold State.idleReceived
  dsimp only
  split
  next off => rw [off] at up; cases up
  next waking => rw [waking] at up; cases up
  next => rfl
  next => rfl

theorem State.grantReceived_of_run (run : (s.link l).state = .run) :
    s.grantReceived l =
      if 4 ≤ (s.link l).credit then s.linkDown l .credit
      else s.putLink l { s.link l with credit := (s.link l).credit + 1, silence := some (s.time + 1) } := by
  unfold State.grantReceived
  dsimp only
  split
  next off => rw [off] at run; cases run
  next waking => rw [waking] at run; cases run
  next ready => rw [ready] at run; cases run
  next => rfl

theorem State.disableLink_of_down (out : s.global.fitted.get n = false) (enabled : (s.link n.link).enabled = true)
    (down : (s.link n.link).state.up = false) :
    s.disableLink n = s.putLink n.link (({ s.link n.link with enabled := false } : LinkUnit).fallen s.time) := by
  rw [State.disableLink]
  dsimp only
  rw [if_pos ⟨out, enabled⟩, if_neg (by rw [down]; nofun), LinkUnit.toOff_eq_fallen]

theorem State.disableLink_of_up (out : s.global.fitted.get n = false) (enabled : (s.link n.link).enabled = true)
    (up : (s.link n.link).state.up = true) (apart : (s.laneState n).joined = false) :
    s.disableLink n =
      (s.putLink n.link (({ s.link n.link with enabled := false } : LinkUnit).fallen s.time)).submit (some n)
        (.link n.link (s.link n.link).state .off .disabled) := by
  have lane : n.link.lane? = some n := by cases n <;> rfl
  rw [State.disableLink]
  dsimp only
  rw [if_pos ⟨out, enabled⟩, if_pos up,
    State.linkDown_of_apart .disabled (by rwa [State.link_putLink_self]) (.inr fun m same => by
      rw [lane] at same
      cases same
      exact apart), State.link_putLink_self, State.putLink_putLink, lane]
  rfl

end

/-- Settles O58: each clause is a branch of the link unit's operation. -/
theorem linksComeUp : Obligations.LinksComeUp := by
  intro l n s high
  dsimp only
  have idle : exec (.idleReceived l) s = .next (s.idleReceived l) := State.whenPowered_of_high _ high
  have grant : exec (.grant l) s = .next (s.grantReceived l) := State.whenPowered_of_high _ high
  have backoff : exec (.backoffExpiry l) s = .next (s.expireBackoff l) := State.whenPowered_of_high _ high
  have enable : exec (.linkEnable n) s = .next (s.enableLink n) := State.whenPowered_of_high _ high
  have disable : exec (.linkDisable n) s = .next (s.disableLink n) := State.whenPowered_of_high _ high
  simp only [idle, grant, backoff, enable, disable, Host.Outcome.next.injEq]
  refine ⟨fun due => ?_, fun notDue => ?_, fun off => ⟨?_, ?_⟩, fun waking => ⟨?_, ?_⟩, fun ready => ⟨?_, ?_⟩,
    fun run => ⟨?_, fun credit => ?_⟩, fun fits disabled off => ?_, fun not => ?_, fun out enabled apart => ?_, fun not => ?_⟩
  · rw [← timerDue_iff] at due
    exact if_pos due
  · rw [← timerDue_iff] at notDue
    exact if_neg notDue
  · rw [State.idleReceived]
    dsimp only
    rw [off]
  · rw [State.grantReceived]
    dsimp only
    rw [off]
  · rw [State.idleReceived]
    dsimp only
    rw [waking]
    rfl
  · rw [State.grantReceived]
    dsimp only
    rw [waking]
  · exact State.idleReceived_of_up (by rw [ready]; rfl)
  · rw [State.grantReceived]
    dsimp only
    rw [ready]
    rfl
  · exact State.idleReceived_of_up (by rw [run]; rfl)
  · rw [State.grantReceived_of_run run, if_neg (Nat.not_le.mpr credit)]
  · refine (if_pos ⟨fits, disabled⟩).trans ?_
    rw [if_pos off]
    rfl
  · refine if_neg fun both => ?_
    obtain out | enabled := not
    · rw [both.1] at out; cases out
    · rw [both.2] at enabled; cases enabled
  · cases up : (s.link n.link).state.up with
    | true => rw [State.disableLink_of_up out enabled up apart, if_pos rfl]
    | false => rw [State.disableLink_of_down out enabled up, if_neg nofun]
  · refine if_neg fun both => ?_
    obtain fits | disabled := not
    · rw [both.1] at fits; cases fits
    · rw [both.2] at disabled; cases disabled

end Sys2Proof.Machine

/-! A link error takes the link to OFF and its lane out, its LINK record behind the records of the departure (R85, R183). -/

namespace Sys2Proof.Machine

/-! ### A departure with a record behind it -/

section
variable {s t : State} {l : Lane} {new : LaneState} {cause : LaneCause}

/-- What follows the announcement of a change leaves its notice and record told (R68). -/
theorem State.hasTold_of_follows {k : Nat} (few : k < 256) (rest : (s.announceChange l new cause).Follows k t) :
    s.HasTold (.lane l (s.laneState l) new cause (if new = .member then s.members.insert l else s.members.remove l))
      (some l) (.lane (s.laneState l) new cause (s.lane l).strikes) t := by
  refine State.hasTold (fun m joined => ?boxes) ?records
  case boxes =>
    obtain ⟨ns, announced⟩ := s.announceChange_told l new cause (rest.joined_before joined)
    obtain ⟨ms, later⟩ := rest.told m joined
    exact ⟨ns ++ ms, by rw [later, announced, ← NoticeBox.pushAll_append]; rfl⟩
  case records =>
    obtain ⟨made, length, journal⟩ := rest.records
    have base := s.announceChange_base l new cause
    refine ⟨made, length.trans_lt few, ?_⟩
    rw [journal, base.global, base.time, State.announceChange_ij, ← Journal.submitAll_append]
    rfl

/-- A record made behind a departure takes nothing of it back. -/
theorem State.HasLeft.submit (h : s.HasLeft l new cause t) (apart : new.joined = false) (sub : Option Lane)
    (b : RecordBody) : s.HasLeft l new cause (t.submit sub b) := by
  obtain ⟨fields, votes, authority, queue, lost, seq⟩ := h
  have follows := t.submit_follows sub b
  obtain ⟨entry, box⟩ := follows.apart l (by rw [fields.1, apart])
  refine ⟨?_, follows.votes l votes, fun member => ?_, ?_, ?_, ?_⟩
  · rw [State.laneState, entry]
    exact fields
  · rw [State.submit_au, State.submit_sc]
    exact authority member
  · rw [box]; exact queue
  · rw [box]; exact lost
  · rw [box]; exact seq

theorem State.moveLane_submit_hasDeparted (was : (s.laneState l).joined = true) (departed : new = .down ∨ new = .excluded)
    (other : ¬ (cause = .miscompare ∨ cause = .missed)) (sub : Option Lane) (b : RecordBody) :
    s.HasDeparted l new cause ((s.moveLane l new cause).submit sub b) := by
  have notMember : new ≠ .member := by obtain rfl | rfl := departed <;> nofun
  have apart : new.joined = false := by obtain rfl | rfl := departed <;> rfl
  have told := State.hasTold_of_follows (by decide) ((s.moveLane_follows l new cause).trans (State.submit_follows _ sub b))
  rw [if_neg notMember] at told
  refine ⟨(s.moveLane_hasLeft l new cause was departed).submit apart sub b, ?_⟩
  rw [if_neg other]
  exact told

theorem State.demotion_few (s : State) (l : Lane) : (s.demotion l).length ≤ 1 := by
  unfold State.demotion
  split <;> simp

theorem State.demotions_few (none' : s.demotion l = []) :
    (s.demotion .a ++ s.demotion .b ++ s.demotion .c).length ≤ 2 := by
  have a := s.demotion_few .a
  have b := s.demotion_few .b
  have c := s.demotion_few .c
  simp only [List.length_append]
  cases l <;> rw [none', List.length_nil] <;> omega

/-- A departure makes its LANE record and at most four more: AUTHORITY, SAFE, and the demotions (R68, R75). -/
theorem State.moveLane_journal (departed : new ≠ .probation) :
    ∃ more : List (Option Lane × RecordBody), more.length ≤ 4 ∧
      (s.moveLane l new cause).ij = s.ij.submitAll s.global.triggers s.global.postCount s.time
        ((some l, .lane (s.laneState l) new cause (s.lane l).strikes) :: more) := by
  obtain ⟨more, few, changed⟩ := State.changeLane_journal (s := s) (l := l) new cause
  obtain same | demoted := s.moveLane_eq_or l new cause
  · exact ⟨more, by omega, by rw [same, changed]⟩
  · have base := s.changeLane_base l new cause
    have none' : (s.changeLane l new cause).demotion l = [] := by
      rw [State.demotion, State.laneState_changeLane, if_pos rfl, if_neg departed]
    have demotions := State.demotions_few none'
    refine ⟨_, (List.length_append (as := more)).trans_le (Nat.add_le_add few demotions), ?_⟩
    rw [demoted, State.demoteAll_journal (State.changeLane_settled new cause), base.global, base.time, changed,
      ← Journal.submitAll_append]
    rfl

/-- A record made behind `made` is the newest, with the sequence it has in the run. -/
theorem Journal.newest_of_submitAll {j : Journal} {m : TriggerMask} {k : Nat} {now : Time}
    {made : List (Option Lane × RecordBody)} {sub : Option Lane} {b : RecordBody} (few : made.length < 256)
    (running : (j.submitAll m k now (made ++ [(sub, b)])).state ≠ .frozen) :
    (j.submitAll m k now (made ++ [(sub, b)])).counter = j.counter + BitVec.ofNat 32 (made.length + 1) ∧
      (j.submitAll m k now (made ++ [(sub, b)])).ring.getLast? =
        some ⟨j.counter + BitVec.ofNat 32 made.length, now, sub, b⟩ := by
  obtain ⟨⟨older, ring⟩, counter⟩ := Journal.submitAll_stores m k now _ j (by simpa using few) running
  refine ⟨by simpa using counter, ?_⟩
  rw [← ring, List.mapIdx_concat, ← List.append_assoc, List.getLast?_concat]

end

/-! ### The commands that take a link down -/

section
variable {s : State} {l : Link} {n : Lane} {cause : LinkCause}

/-- The characters of the frame in which an error lies do not show in what the error leaves (R178, R183). -/
theorem State.linkDown_frameHeard (up : (s.link l).state.up = true) :
    (s.frameHeard l).linkDown l cause = s.linkDown l cause := by
  have heard : (s.frameHeard l).link l = (s.link l).heard s.time := State.link_putLink_self _ _ _
  have off : (s.frameHeard l).putLink l ((s.link l).toOff s.time) = s.putLink l ((s.link l).toOff s.time) :=
    State.putLink_putLink _ _ _ _
  unfold State.linkDown
  dsimp only
  rw [heard, if_pos up]
  refine (if_pos up).trans ?_
  rw [← off]
  rfl

theorem State.withFrame_linkDown (room : (s.link l).waiting.length < 4) :
    s.withFrame l (State.linkDown l cause) = s.linkDown l cause := by
  cases up : (s.link l).state.up with
  | false => rw [s.withFrame_of_not_up _ up, s.linkDown_of_not_up _ up]
  | true =>
    rw [s.withFrame_of_room _ up room, State.linkDown_frameHeard up]

/-- Every condition of Table 11.2 takes the link down with its cause where it is in READY or RUN (R178). -/
theorem exec_of_linkFails {c : Instr} (high : s.resetN = .high) (fails : s.LinkFails l c cause) :
    exec c s = .next (s.linkDown l cause) := by
  unfold State.LinkFails at fails
  split at fails
  · subst fails
    exact State.whenPowered_of_high _ high
  · obtain ⟨rfl, due⟩ := fails
    refine (State.whenPowered_of_high (State.expireSilence _) high).trans (congrArg Host.Outcome.next ?_)
    rw [State.expireSilence, timerDue_iff.mpr due]
    split
    · rfl
    next down => exact (s.linkDown_of_not_up _ (by simpa using down)).symm
  · obtain ⟨rfl, ready, due⟩ := fails
    refine (State.whenPowered_of_high (State.expireHandshake _) high).trans (congrArg Host.Outcome.next ?_)
    exact if_pos ⟨ready, timerDue_iff.mpr due⟩
  · obtain ⟨rfl, run, full⟩ := fails
    refine (State.whenPowered_of_high (State.grantReceived _) high).trans (congrArg Host.Outcome.next ?_)
    rw [State.grantReceived_of_run run, if_pos full]
  · obtain ⟨rfl, full⟩ := fails
    refine (State.whenPowered_of_high _ high).trans (congrArg Host.Outcome.next ?_)
    exact if_pos (Nat.sub_eq_zero_of_le full)
  next k how =>
    obtain ⟨rfl, inside⟩ := fails
    have run : exec (.framingError k how) s = execFramingError k how s := rfl
    rw [run, execFramingError, State.whenPowered_of_high _ high]
    cases how with
    | characterOutsideFrame => rfl
    | startInsideFrame => exact congrArg Host.Outcome.next (State.withFrame_linkDown (inside.resolve_left nofun))
    | frameTooLong => exact congrArg Host.Outcome.next (State.withFrame_linkDown (inside.resolve_left nofun))
  next k how =>
    obtain ⟨rfl, inside, full⟩ := fails
    have run : exec (.framingError k how) s = execFramingError k how s := rfl
    rw [run, execFramingError, State.whenPowered_of_high _ high]
    have down : ∀ f, s.withFrame k f = s.linkDown k .credit := by
      intro f
      cases up : (s.link k).state.up with
      | false => rw [s.withFrame_of_not_up _ up, s.linkDown_of_not_up _ up]
      | true => exact s.withFrame_of_full _ up full
    cases how with
    | characterOutsideFrame => exact absurd rfl inside
    | startInsideFrame => exact congrArg Host.Outcome.next (down _)
    | frameTooLong => exact congrArg Host.Outcome.next (down _)
  · cases fails

end

/-- Settles O59: every command of Table 11.2 takes the link down, with the lane's departure before the LINK record. -/
theorem linkErrorsTakeTheLinkDown : Obligations.LinkErrorsTakeTheLinkDown := by
  intro l s high
  refine ⟨fun c cause fails => ⟨fun down => ?_, fun up => ⟨fun apart => ?_, fun n lane run joined => ?_⟩⟩,
    fun d running notReached => ?_, fun d running notReached => ?_, fun room => ?_⟩
  · rw [exec_of_linkFails high fails, s.linkDown_of_not_up _ down]
  · rw [exec_of_linkFails high fails, State.linkDown_of_apart cause up apart]
  · have base := s.linkDown_spec cause up
    have fell := State.linkDown_of_lane cause lane run
    have joined' : ((s.putLink l ((s.link l).fallen s.time)).laneState n).joined = true := joined
    rw [State.depart_of_joined .linkLost joined'] at fell
    have departed : (if s.laneState n = .member then LaneState.excluded else .down) = .down ∨
        (if s.laneState n = .member then LaneState.excluded else .down) = .excluded := by
      split
      · exact .inr rfl
      · exact .inl rfl
    have out : s.HasDeparted n (if s.laneState n = .member then .excluded else .down) .linkLost (s.linkDown l cause) := by
      rw [fell]
      exact State.moveLane_submit_hasDeparted joined' departed (by simp) _ _
    obtain ⟨more, few, journal⟩ := State.moveLane_journal (s := s.putLink l ((s.link l).fallen s.time)) (l := n)
      (cause := .linkLost) (new := if s.laneState n = .member then .excluded else .down) (by split <;> nofun)
    refine ⟨_, exec_of_linkFails high fails, ?_, base.cu, out, ⟨_,
      State.moveLane_hasDeparted (s.putLink l ((s.link l).fallen s.time)) n joined' departed (by simp), fell⟩, fun running => ?_⟩
    · rw [State.link, base.lu]
      exact State.link_putLink_self _ _ _
    · have moved : State.Records _ _ _ := ⟨State.moveLane_base _ n _ .linkLost, journal⟩
      have whole := (moved.trans (.of_submit (.refl _) rfl (some n) (.link l .run .off cause))).journal
      rw [fell] at running ⊢
      have running' := whole ▸ running
      obtain ⟨counter, newest⟩ := Journal.newest_of_submitAll (by rw [List.length_cons]; omega) running'
      refine ⟨more.length + 1, Nat.le_add_left 1 _, Nat.succ_le_succ few, ?_, ?_⟩
      · exact (congrArg Journal.counter whole).trans counter
      · exact (congrArg (fun j : Journal => j.ring.getLast?) whole).trans newest
  · refine (State.whenPowered_of_high (State.expireSilence l) high).trans (congrArg Host.Outcome.next ?_)
    rw [State.expireSilence, timerDue_eq running, notReached]
    exact if_neg fun both => by cases both.2
  · refine (State.whenPowered_of_high (State.expireHandshake l) high).trans (congrArg Host.Outcome.next ?_)
    rw [State.expireHandshake, timerDue_eq running, notReached]
    exact if_neg fun both => by cases both.2
  · refine (State.whenPowered_of_high _ high).trans (congrArg Host.Outcome.next (if_neg ?_))
    simp only [LinkUnit.freeBuffers, Config.bufferCount]
    omega

end Sys2Proof.Machine

/-! Frames received and sent (R136, R137, R146 to R148, R179 to R182). -/

namespace Sys2Proof.Machine

section
variable {s : State} {l : Link} {link : ReqLink} {r : Request}

/-- While four replies are owed no waiting request is taken (R137). -/
theorem State.takeWaiting_of_owed (n : Nat) (owed : 4 ≤ (s.link link.link).replies.length) : s.takeWaiting n link = s := by
  cases n with
  | zero => rfl
  | succ n =>
    unfold State.takeWaiting
    split
    · rfl
    · exact if_neg (Nat.not_lt.mpr owed)

theorem State.receive_of_down (down : (s.link link.link).state.up = false) : s.receive link r = s :=
  s.withFrame_of_not_up _ down

theorem State.receive_of_full (up : (s.link link.link).state.up = true) (full : 4 ≤ (s.link link.link).waiting.length) :
    s.receive link r = s.linkDown link.link .credit :=
  s.withFrame_of_full _ up full

/-- A request waits in its receive buffer while four replies are owed (R137). -/
theorem State.receive_of_owed (up : (s.link link.link).state.up = true) (room : (s.link link.link).waiting.length < 4)
    (owed : 4 ≤ (s.link link.link).replies.length) :
    s.receive link r = s.putLink link.link { s.link link.link with
      silence := some (s.time + 1)
      waiting := (s.link link.link).waiting ++ [r]
      peerCredit := (s.link link.link).peerCredit - 1 } := by
  have stored : (s.frameHeard link.link).bufferRequest link r = s.putLink link.link { s.link link.link with
      silence := some (s.time + 1)
      waiting := (s.link link.link).waiting ++ [r]
      peerCredit := (s.link link.link).peerCredit - 1 } := by
    unfold State.bufferRequest State.frameHeard
    dsimp only
    rw [State.link_putLink_self, State.putLink_putLink]
  rw [State.receive, s.withFrame_of_room _ up room, stored]
  exact State.takeWaiting_of_owed _ (by rwa [State.link_putLink_self])

theorem exec_startNoFreeBuffer (high : s.resetN = .high) (full : 4 ≤ (s.link l).waiting.length) :
    exec (.startNoFreeBuffer l) s = .next (s.linkDown l .credit) :=
  exec_of_linkFails high ⟨rfl, full⟩

/-! ### The end of a reply -/

/-- The answer to a request leaves its link's replies as they were. -/
theorem serve_replies (link : ReqLink) (r : Request) (s : State) :
    ((serve link r s).state.link link.link).replies = (s.link link.link).replies := by
  obtain same | cleared := serve_link link r s link.link
  · rw [same]
  · rw [cleared]
    rfl

/-- At the END of a reply, of the four owed, the oldest waiting request is taken and answered (R137). -/
theorem State.takeRequests_of_three {rest : List Request} (waits : (s.link link.link).waiting = r :: rest)
    (three : (s.link link.link).replies.length = 3) :
    s.takeRequests link = State.queueReply link r (serve link r s) := by
  rw [State.takeRequests, waits, List.length_cons, State.takeWaiting, waits]
  dsimp only
  rw [if_pos (by rw [three]; decide)]
  refine State.takeWaiting_of_owed _ ?_
  rw [State.queueReply, State.link_putLink_self, serve_replies, List.length_append, three]
  exact le_rfl

theorem State.takeRequests_answers {rest : List Request} (waits : (s.link link.link).waiting = r :: rest)
    (three : (s.link link.link).replies.length = 3) :
    ∃ reply, ((s.takeRequests link).link link.link).waiting = rest ∧
      ((s.takeRequests link).link link.link).replies = (s.link link.link).replies ++ [reply] ∧
      reply.kind = r.kind ∧ reply.tag = r.tag := by
  rw [State.takeRequests_of_three waits three, State.queueReply, State.link_putLink_self]
  dsimp only
  rw [serve_waiting, serve_replies, waits]
  exact ⟨_, rfl, rfl, rfl, rfl⟩

theorem State.takeRequests_of_none (none' : (s.link link.link).waiting = []) : s.takeRequests link = s := by
  rw [State.takeRequests, none']
  rfl

theorem LinkUnit.mayStart_eq_false {u : LinkUnit} (not : u.state ≠ .run ∨ u.credit = 0 ∨ u.sending ≠ none) :
    u.mayStart = false := by
  rw [← Bool.not_eq_true, LinkUnit.mayStart_iff]
  rintro ⟨run, credit, free⟩
  obtain down | empty | busy := not
  · exact down run
  · omega
  · exact busy free

theorem State.startNotice_of_idle {n : Lane}
    (not : (s.nu.get n).queue = [] ∨ (s.link n.link).replies ≠ [] ∨ (s.link n.link).mayStart = false) :
    s.startNotice n = s := by
  unfold State.startNotice
  dsimp only
  split
  · rfl
  next x rest queue =>
    refine if_neg fun both => ?_
    obtain none' | replies | idle := not
    · rw [queue] at none'
      cases none'
    · exact replies both.2
    · rw [idle] at both
      cases both.1

theorem State.endFrame_of_reply {x : Reply} (sending : (s.link link.link).sending = some (.reply x)) :
    s.endFrame link.link =
      State.takeRequests link (s.putLink link.link { s.link link.link with
        sending := none, replies := (s.link link.link).replies.tail }) := by
  have back : requestLink link.link = some link := by
    cases link with
    | lane n => cases n <;> rfl
    | ml => rfl
  rw [State.endFrame]
  dsimp only
  rw [sending]
  dsimp only
  rw [back]

theorem State.startReply_of_idle (not : (s.link l).replies = [] ∨ (s.link l).mayStart = false) : s.startReply l = s := by
  unfold State.startReply
  dsimp only
  split
  · rfl
  next r rest replies =>
    obtain none' | idle := not
    · rw [replies] at none'
      cases none'
    · rw [idle]
      rfl

end

/-- Settles O60: each clause is a branch of the reception or of the sending of a frame. -/
theorem framesAreReceivedAndSent : Obligations.FramesAreReceivedAndSent := by
  intro s high
  refine ⟨fun l data => ⟨fun down => ⟨?_, ?_⟩, fun up room => ⟨?_, fun bad short => ?_⟩⟩, fun c link r request =>
    ⟨fun down => ?_, fun up full => ?_, fun up room owed => ?_⟩, fun link => ⟨fun r rest replies run credit free => ?_,
    fun not => ?_, fun r sending none' => ?_, fun x r rest sending waits four => ?_⟩, fun n => ⟨fun x rest queue replies run
    credit free => ?_, fun not => ?_⟩, fun l => ⟨fun idle => ?_, fun f sending notReply => ?_⟩⟩
  · exact (State.whenPowered_of_high _ high).trans (congrArg Host.Outcome.next (s.withFrame_of_not_up _ down))
  · have run : exec (.discardedFrame l data) s = execDiscardedFrame l data s := rfl
    rw [run, execDiscardedFrame, State.whenPowered_of_high _ high, s.withFrame_of_not_up _ down, ite_self]
  · exact (State.whenPowered_of_high _ high).trans (congrArg Host.Outcome.next (s.withFrame_of_room _ up room))
  · have run : exec (.discardedFrame l data) s = execDiscardedFrame l data s := rfl
    rw [run, execDiscardedFrame, State.whenPowered_of_high _ high, if_pos ⟨bad, short⟩, s.withFrame_of_room _ up room,
      State.countDiscard, State.frameHeard, State.link_putLink_self, State.putLink_putLink, satInc_eq_min]
  · rw [exec_of_request s request, State.whenPowered_of_high _ high, State.receive_of_down down]
  · rw [exec_of_request s request, State.whenPowered_of_high _ high, State.receive_of_full up full,
      exec_startNoFreeBuffer high full]
  · rw [exec_of_request s request, State.whenPowered_of_high _ high, State.receive_of_owed up room owed]
  · have run' : exec (.sendReply link) s = .next (s.startReply link.link) := State.whenPowered_of_high _ high
    rw [run', State.startReply, replies]
    exact congrArg Host.Outcome.next (if_pos ((LinkUnit.mayStart_iff _).mpr ⟨run, credit, free⟩))
  · have run' : exec (.sendReply link) s = .next (s.startReply link.link) := State.whenPowered_of_high _ high
    rw [run', State.startReply_of_idle (not.imp_right LinkUnit.mayStart_eq_false)]
  · have run : exec (.frameSent link.link) s = .next (s.endFrame link.link) := State.whenPowered_of_high _ high
    rw [run, State.endFrame_of_reply sending, State.takeRequests_of_none (by rw [State.link_putLink_self]; exact none')]
  · have run : exec (.frameSent link.link) s = .next (s.endFrame link.link) := State.whenPowered_of_high _ high
    have three : (s.link link.link).replies.tail.length = 3 := by rw [List.length_tail, four]
    have queues : ∀ u : LinkUnit, (s.putLink link.link u).link link.link = u := fun u => State.link_putLink_self _ _ _
    obtain ⟨reply, waiting, replies, kind, tag⟩ := State.takeRequests_answers (link := link) (r := r) (rest := rest)
      (s := s.putLink link.link { s.link link.link with
        sending := none, replies := (s.link link.link).replies.tail }) (by rw [queues]; exact waits)
      (by rw [queues]; exact three)
    rw [queues] at replies
    rw [← State.endFrame_of_reply sending] at waiting replies
    exact ⟨_, reply, run, waiting, replies, kind, tag⟩
  · have run' : exec (.sendNotice n) s = .next (s.startNotice n) := State.whenPowered_of_high _ high
    rw [run', State.startNotice]
    dsimp only
    rw [queue]
    exact congrArg Host.Outcome.next (if_pos ⟨(LinkUnit.mayStart_iff _).mpr ⟨run, credit, free⟩, replies⟩)
  · have run' : exec (.sendNotice n) s = .next (s.startNotice n) := State.whenPowered_of_high _ high
    rw [run', State.startNotice_of_idle (not.imp_right (Or.imp_right LinkUnit.mayStart_eq_false))]
  · have run : exec (.frameSent l) s = .next (s.endFrame l) := State.whenPowered_of_high _ high
    rw [run, State.endFrame]
    dsimp only
    rw [idle]
  · have run : exec (.frameSent l) s = .next (s.endFrame l) := State.whenPowered_of_high _ high
    rw [run, State.endFrame]
    dsimp only
    rw [sending]
    cases f with
    | reply r => exact absurd rfl (notReply r)
    | notice => rfl
    | apply => rfl

end Sys2Proof.Machine

/-! The frames on the line: the check of a received frame and the bytes of every frame sent (R180 to R182, R184 to R186). -/

namespace Sys2Proof.Machine

/-! ### The check of a frame -/

theorem length_frameBytes (kind tag : Byte) (payload : List Byte) : (frameBytes kind tag payload).length = payload.length + 5 := by
  simp [frameBytes, be16]

/-- The check of a frame whose length byte counts its payload: only the check sequence is left (R180). -/
theorem checkFrame_of_length {kind tag len : Byte} {payload seq : List Byte} (short : len.toNat ≤ 128)
    (counts : payload.length = len.toNat) (two : seq.length = 2) :
    checkFrame (kind :: tag :: len :: (payload ++ seq)) =
      if be16 (crc16 (kind :: tag :: len :: payload)) = seq then some ⟨kind, tag, payload⟩ else none := by
  have length : (kind :: tag :: len :: (payload ++ seq)).length = len.toNat + 5 := by
    simp only [List.length_cons, List.length_append, counts, two]
  have body : (kind :: tag :: len :: (payload ++ seq)).take (len.toNat + 5 - 2) = kind :: tag :: len :: payload := by
    simp [← counts]
  have check : (kind :: tag :: len :: (payload ++ seq)).drop (len.toNat + 5 - 2) = seq := by
    simp [← counts]
  rw [checkFrame, length, body, check, if_neg (by simp only [Config.payloadMax]; omega)]
  simp [← counts]

theorem checkFrame_frameBytes (kind tag : Byte) {payload : List Byte} (short : payload.length ≤ 128) :
    checkFrame (frameBytes kind tag payload) = some ⟨kind, tag, payload⟩ := by
  have len : (BitVec.ofNat 8 payload.length).toNat = payload.length := by
    rw [BitVec.toNat_ofNat]
    omega
  exact (checkFrame_of_length (by rw [len]; exact short) len.symm rfl).trans (if_pos rfl)

/-- A frame that passes the checks is the sender's frame of what it holds (R180). -/
theorem frameBytes_of_checkFrame {data : List Byte} {f : GoodFrame} (passed : checkFrame data = some f) :
    data = frameBytes f.kind f.tag f.payload ∧ f.payload.length ≤ 128 := by
  match data with
  | [] => cases passed
  | [_] => cases passed
  | [_, _] => cases passed
  | kind :: tag :: len :: rest =>
    have good := passed
    rw [checkFrame] at good
    split at good
    · cases good
    next lengths =>
      simp only [not_or, not_lt, ne_eq, not_not, Config.payloadMax, List.length_cons] at lengths
      obtain ⟨-, short, total⟩ := lengths
      have counts : (rest.take len.toNat).length = len.toNat := by rw [List.length_take]; omega
      have two : (rest.drop len.toNat).length = 2 := by rw [List.length_drop]; omega
      rw [← List.take_append_drop len.toNat rest, checkFrame_of_length short counts two] at passed
      split at passed
      next seq =>
        cases passed
        refine ⟨?_, by rw [counts]; exact short⟩
        have len' : BitVec.ofNat 8 (rest.take len.toNat).length = len := by rw [counts, BitVec.ofNat_toNat, BitVec.setWidth_eq]
        rw [frameBytes]
        dsimp only
        rw [len', seq]
        simp
      · cases passed

/-! ### Fields and frames sent -/

theorem be32_eq (x : BitVec 32) :
    be32 x = [BitVec.ofNat 8 (x.toNat / 16777216), BitVec.ofNat 8 (x.toNat / 65536), BitVec.ofNat 8 (x.toNat / 256),
      BitVec.ofNat 8 x.toNat] := by
  have part : ∀ k, x.extractLsb' k 8 = BitVec.ofNat 8 (x.toNat / 2 ^ k) := fun k => by
    apply BitVec.eq_of_toNat_eq
    rw [BitVec.extractLsb'_toNat, BitVec.toNat_ofNat, Nat.shiftRight_eq_div_pow]
  rw [be32, part, part, part, part]
  simp

theorem sent_of_bytes {f : TxFrame} {kind tag : Byte} {payload : List Byte} (bytes : f.bytes = frameBytes kind tag payload)
    (short : payload.length ≤ 128) : checkFrame f.bytes = some ⟨kind, tag, payload⟩ := by
  rw [bytes, checkFrame_frameBytes kind tag short]

theorem claimBytes_eq {claims : List Lane} (few : claims.length ≤ 2) :
    claimBytes claims = (claims.map laneByte ++ [0xFF, 0xFF]).take 2 := by
  match claims with
  | [] => rfl
  | [l] => rfl
  | [l, m] => rfl
  | _ :: _ :: _ :: _ => simp only [List.length_cons] at few; omega

/-- Settles O57: the check of a frame is the sender's rule read backwards, and every frame is built by that rule. -/
theorem framesRoundTrip : Obligations.FramesRoundTrip := by
  refine ⟨fun data f => ⟨frameBytes_of_checkFrame, fun ⟨bytes, short⟩ => ?_⟩, ⟨fun p tag v => ?_, fun seq lost => ?_,
    fun kind tag result => ?_⟩, ⟨be16_eq, be32_eq, rfl, rfl, fun _ => rfl, laneSetByte_eq, flagByte_eq, rfl, fun _ => rfl, rfl,
    fun _ => rfl, rfl, fun _ => rfl, rfl, fun _ => rfl⟩, ?_, fun u => ?_⟩
  · rw [bytes, checkFrame_frameBytes f.kind f.tag short]
  · exact sent_of_bytes rfl
  · refine ⟨fun l old new cause members => sent_of_bytes rfl, fun old new epoch cause claims few => sent_of_bytes ?_,
      fun r => sent_of_bytes ?_, fun p cleared v tag cause readback => sent_of_bytes rfl,
      fun direction members least => sent_of_bytes rfl, fun trigger kind subject newest => sent_of_bytes rfl,
      fun voters threshold => sent_of_bytes rfl⟩
    · rw [← claimBytes_eq few]
      rfl
    · rw [← OutcomeReport.bytes_eq]
      rfl
  · refine ⟨sent_of_bytes rfl, fun results => sent_of_bytes rfl, fun d => sent_of_bytes rfl,
      fun left cause => sent_of_bytes rfl, fun r => sent_of_bytes rfl, fun e => sent_of_bytes rfl,
      fun n => sent_of_bytes rfl, fun e holder => sent_of_bytes rfl, fun count threshold left => sent_of_bytes rfl,
      fun r => sent_of_bytes ?_, fun p v => sent_of_bytes rfl, fun r => sent_of_bytes rfl, fun seq => sent_of_bytes rfl,
      fun code => sent_of_bytes rfl, fun index g => sent_of_bytes rfl, fun index c => sent_of_bytes rfl,
      fun item => sent_of_bytes rfl, fun item p => sent_of_bytes rfl, fun r => sent_of_bytes rfl⟩
    obtain ⟨p, cfg, next, slots, last, target, confirmed, status, retries⟩ := r
    cases last <;> rfl
  · decide
  · refine ⟨fun off => ?_, fun early => ?_, fun run => ⟨fun free => ?_, fun f sending => ?_⟩⟩
    · rw [LinkUnit.line, off]
    · obtain waking | ready := early
      · rw [LinkUnit.line, waking]
      · rw [LinkUnit.line, ready]
    · rw [LinkUnit.line, run, free]
    · rw [LinkUnit.line, run, sending]

end Sys2Proof.Machine

/-! PROPOSE: the checks of the frame, of an entry and of a slot, and what an accepted entry stores (R18 to R27). -/

namespace Sys2Proof.Machine

/-! ### The payload -/

theorem readEntries_flatMap (es : List ProposeEntry) :
    readEntries (es.flatMap fun e => e.point :: (be16 e.serial ++ be16 e.value)) = some es := by
  induction es with
  | nil => rfl
  | cons e rest ih =>
    rw [List.flatMap_cons]
    simp only [be16, List.cons_append, List.nil_append, readEntries]
    simp only [be16, List.cons_append, List.nil_append] at ih
    rw [ih, from16_extract, from16_extract]

theorem length_entries (es : List ProposeEntry) :
    (es.flatMap fun e => e.point :: (be16 e.serial ++ be16 e.value)).length = 5 * es.length := by
  induction es with
  | nil => rfl
  | cons e rest ih =>
    rw [List.flatMap_cons, List.length_append, ih, List.length_cons]
    simp only [be16, List.cons_append, List.nil_append, List.length_cons, List.length_nil]
    omega

theorem readPropose_proposePayload {es : List ProposeEntry} (some' : es ≠ []) (few : es.length ≤ 16) :
    readPropose (proposePayload es) = some es := by
  have count : (BitVec.ofNat 8 es.length).toNat = es.length := by
    rw [BitVec.toNat_ofNat]
    omega
  have nonempty := List.length_pos_iff.mpr some'
  rw [proposePayload, readPropose, count, length_entries, readEntries_flatMap, if_neg]
  simp only [Config.proposeMax]
  omega

/-- Bytes in groups of five are read as entries. -/
theorem readEntries_of_length {n : Nat} {bytes : List Byte} (length : bytes.length = 5 * n) :
    ∃ es, readEntries bytes = some es ∧ es.length = n := by
  induction n generalizing bytes with
  | zero => exact ⟨[], by rw [List.length_eq_zero_iff.mp length]; rfl, rfl⟩
  | succ n ih =>
    match bytes with
    | b :: s1 :: s0 :: v1 :: v0 :: rest =>
      obtain ⟨es, read, count⟩ := ih (bytes := rest) (by simp only [List.length_cons] at length; omega)
      exact ⟨_ :: es, by rw [readEntries, read], by rw [List.length_cons, count]⟩
    | [] => simp only [List.length_nil] at length; omega
    | [_] => simp only [List.length_cons, List.length_nil] at length; omega
    | [_, _] => simp only [List.length_cons, List.length_nil] at length; omega
    | [_, _, _] => simp only [List.length_cons, List.length_nil] at length; omega
    | [_, _, _, _] => simp only [List.length_cons, List.length_nil] at length; omega

/-! ### The entries -/

section
variable {s : State} {l : Lane} {tag : Byte} {es : List ProposeEntry} {e : ProposeEntry} {p : Fin 64}

theorem State.length_proposeEntries (l : Lane) (es : List ProposeEntry) (s : State) :
    (s.proposeEntries l es).1.length = es.length := by
  induction es generalizing s with
  | nil => rfl
  | cons e rest ih => exact congrArg (· + 1) (ih _)

/-- A sender that is neither PROBATION nor MEMBER is refused every entry, without effect (R20). -/
theorem State.proposeEntries_of_apart (apart : (s.laneState l).joined = false) (es : List ProposeEntry) :
    s.proposeEntries l es = (es.map fun _ => .notMember, s) := by
  induction es with
  | nil => rfl
  | cons e rest ih =>
    have refused : s.proposeEntry l e = (.notMember, s) := if_pos apart
    rw [State.proposeEntries, refused, ih]
    rfl

theorem servePropose_of_entries {payload : List Byte} (read : readPropose payload = some es) (operate : s.cu.mode = .operate)
    (joined : (s.laneState l).joined = true) :
    servePropose l payload s = ⟨(s.proposeEntries l es).2, .ok, .entries (s.proposeEntries l es).1⟩ := by
  rw [servePropose, read]
  dsimp only
  rw [operate, joined, if_neg nofun, if_neg nofun]

/-- A frame that passes its checks has its entries taken and answered (R18, R19). -/
theorem exec_propose {payload : List Byte} (h : s.TakesAtOnce (.lane l)) (read : readPropose payload = some es)
    (operate : s.cu.mode = .operate) (joined : (s.laneState l).joined = true) :
    exec (.propose (.lane l) tag payload) s =
      .next ((s.proposeEntries l es).2.replied (.lane l) ⟨0x10, tag, .ok, .entries (s.proposeEntries l es).1⟩) :=
  exec_of_lane (kind := .propose) rfl nofun h (servePropose_of_entries read operate joined)

/-- A frame of one entry. -/
theorem exec_propose_one (h : s.TakesAtOnce (.lane l)) (operate : s.cu.mode = .operate)
    (joined : (s.laneState l).joined = true) :
    exec (.propose (.lane l) tag (proposePayload [e])) s =
      .next ((s.proposeEntry l e).2.replied (.lane l) ⟨0x10, tag, .ok, .entries [(s.proposeEntry l e).1]⟩) := by
  have one : s.proposeEntries l [e] = ([(s.proposeEntry l e).1], (s.proposeEntry l e).2) := rfl
  rw [exec_propose h (readPropose_proposePayload (List.cons_ne_nil e []) (by simp)) operate joined, one]

/-- An entry that passes the checks of the lane and of the point (R19, R21). -/
theorem State.proposeEntry_of_allowed (joined : (s.laneState l).joined = true) (at_ : e.point.toNat = p.val)
    (enabled : (s.cfgOf p).enabled = true) (elector : (s.cfgOf p).electorate.get l = true)
    (domain : inDomain (s.cfgOf p) e.value = true) : s.proposeEntry l e = s.proposeAt p l e := by
  rw [State.proposeEntry, joined, pointOf_of_val at_]
  dsimp only
  rw [enabled, elector, domain, if_neg nofun, if_neg nofun, if_neg nofun, if_neg nofun]

/-! ### The serial distance -/

theorem State.proposeAt_of_stale (stale : 32768 ≤ (e.serial - (s.voteOf p).next).toNat) :
    s.proposeAt p l e = (.stale, s) := if_pos stale

theorem State.proposeAt_of_ahead (ahead : 2 ≤ (e.serial - (s.voteOf p).next).toNat)
    (fresh : (e.serial - (s.voteOf p).next).toNat < 32768) : s.proposeAt p l e = (.ahead, s) :=
  (if_neg (Nat.not_le.mpr fresh)).trans (if_pos ahead)

/-- The entry for N of a point without slots opens one. -/
theorem State.proposeAt_opens (zero : (e.serial - (s.voteOf p).next).toNat = 0) (none' : (s.voteOf p).slots = []) :
    s.proposeAt p l e = (.accepted, s.settleFirst p (newSlot s.time (s.cfgOf p) s.joined l e) []) := by
  rw [State.proposeAt]
  simp only [serialDistance, zero, none']
  rfl

theorem State.proposeAt_first {x : Slot} {rest : List Slot} (zero : (e.serial - (s.voteOf p).next).toNat = 0)
    (slots : (s.voteOf p).slots = x :: rest) :
    s.proposeAt p l e =
      ((slotRefusal l x).getD .accepted, if slotRefusal l x = none then s.settleFirst p (x.store l e.value) rest else s) := by
  rw [State.proposeAt]
  simp only [serialDistance, zero, slots]
  cases slotRefusal l x <;> rfl

theorem State.proposeAt_alone (one : (e.serial - (s.voteOf p).next).toNat = 1) (none' : (s.voteOf p).slots = []) :
    s.proposeAt p l e = (.ahead, s) := by
  rw [State.proposeAt]
  simp only [serialDistance, one, none']
  rfl

theorem State.proposeAt_opens_later {x : Slot} (one : (e.serial - (s.voteOf p).next).toNat = 1)
    (slots : (s.voteOf p).slots = [x]) :
    s.proposeAt p l e =
      (.accepted, s.putSlots p [x, (newSlot s.time (s.cfgOf p) s.joined l e).ripenComplete]) := by
  rw [State.proposeAt]
  simp only [serialDistance, one, slots]
  rfl

theorem State.proposeAt_second {x y : Slot} {rest : List Slot} (one : (e.serial - (s.voteOf p).next).toNat = 1)
    (slots : (s.voteOf p).slots = x :: y :: rest) :
    s.proposeAt p l e =
      ((slotRefusal l y).getD .accepted,
        if slotRefusal l y = none then s.putSlots p (x :: (y.store l e.value).ripenComplete :: rest) else s) := by
  rw [State.proposeAt]
  simp only [serialDistance, one, slots]
  cases slotRefusal l y <;> rfl

/-- An OPEN slot takes a proposal of a lane on its roll that has none there yet (R26). -/
theorem slotRefusal_of_open {x : Slot} (opened : x.state = .opened) (onRoll : x.roll.get l = true)
    (silent : x.hasProposal l = false) : slotRefusal l x = none := by
  rw [slotRefusal, onRoll, silent, opened]
  rfl

theorem Slot.ripenComplete_of_opened {x : Slot} (opened : x.state = .opened) :
    x.ripenComplete = if x.complete = true then { x with state := .ripe .complete } else x := by
  rw [Slot.ripenComplete, opened]
  simp

theorem State.settleFirst_of_incomplete {x : Slot} {rest : List Slot} (incomplete : x.complete = false) :
    s.settleFirst p x rest = s.putSlots p (x :: rest) :=
  if_neg (by rw [incomplete]; nofun)

end

theorem toNat_ofNat_point (p : Fin 64) : (BitVec.ofNat 8 p.val : Byte).toNat = p.val := by
  rw [BitVec.toNat_ofNat]
  omega

/-- Settles O18: at distance 0 and 1, a slot opened and a slot joined. -/
theorem proposalsAreStored : Obligations.ProposalsAreStored := by
  intro l tag p serial v s h operate joined enabled elector domain
  dsimp only
  obtain ⟨e, entry⟩ : ∃ e : ProposeEntry, e = ⟨BitVec.ofNat 8 p.val, serial, v⟩ := ⟨_, rfl⟩
  have run := exec_propose_one (tag := tag) (e := e) h operate joined
  rw [State.proposeEntry_of_allowed (p := p) joined (by rw [entry]; exact toNat_ofNat_point p) enabled elector
    (by rw [entry]; exact domain)] at run
  have first : serial = (s.voteOf p).next → (e.serial - (s.voteOf p).next).toNat = 0 :=
    fun here => by rw [entry]; exact serialDistance_eq_zero_iff.mpr here
  have second : serial = (s.voteOf p).next + 1 → (e.serial - (s.voteOf p).next).toNat = 1 :=
    fun later => by rw [entry]; exact serialDistance_eq_one_iff.mpr later
  refine ⟨fun here none' incomplete => ?_, fun x rest here slots opened onRoll silent incomplete => ?_,
    fun x later slots => ?_, fun x y later slots opened onRoll silent => ?_⟩
  · have stays := State.settleFirst_of_incomplete (s := s) (p := p) (rest := [])
      (x := newSlot s.time (s.cfgOf p) s.joined l ⟨BitVec.ofNat 8 p.val, serial, v⟩) incomplete
    rw [State.proposeAt_opens (first here) none', entry, stays] at run
    exact run
  · have accepted := slotRefusal_of_open opened onRoll silent
    have stays := State.settleFirst_of_incomplete (s := s) (p := p) (rest := rest) (x := x.store l v) incomplete
    rw [State.proposeAt_first (first here) slots, accepted, if_pos rfl, entry, stays] at run
    exact run
  · have ripened := Slot.ripenComplete_of_opened
      (x := newSlot s.time (s.cfgOf p) s.joined l ⟨BitVec.ofNat 8 p.val, serial, v⟩) rfl
    rw [State.proposeAt_opens_later (second later) slots, entry, ripened] at run
    exact run
  · have accepted := slotRefusal_of_open opened onRoll silent
    have ripened := Slot.ripenComplete_of_opened (x := y.store l v) opened
    rw [State.proposeAt_second (second later) slots, accepted, if_pos rfl, entry, ripened] at run
    exact run

/-! ### Refusals -/

/-- The refusals of a slot in their order (R26). -/
theorem slotRefusal_of_off_roll {x : Slot} {l : Lane} (offRoll : x.roll.get l = false) :
    slotRefusal l x = some .notOnRoll :=
  if_pos offRoll

theorem slotRefusal_of_duplicate {x : Slot} {l : Lane} (onRoll : x.roll.get l = true) (has : x.hasProposal l = true) :
    slotRefusal l x = some .duplicate := by
  rw [slotRefusal, onRoll, has]
  rfl

theorem slotRefusal_of_late {x : Slot} {l : Lane} (onRoll : x.roll.get l = true) (silent : x.hasProposal l = false)
    (late : x.state = .ripe .expired) : slotRefusal l x = some .late := by
  rw [slotRefusal, onRoll, silent, late]
  rfl

/-- A slot named by its serial that refuses the entry: the refusal is the entry's result and nothing changes (R26). -/
theorem State.proposeAt_of_refused {s : State} {p : Fin 64} {l : Lane} {e : ProposeEntry} {x : Slot} {r : EntryResult}
    (named : (e.serial - (s.voteOf p).next).toNat = 0 ∧ (s.voteOf p).slots.head? = some x ∨
      (e.serial - (s.voteOf p).next).toNat = 1 ∧ (s.voteOf p).slots[1]? = some x)
    (refused : slotRefusal l x = some r) : s.proposeAt p l e = (r, s) := by
  obtain ⟨zero, first⟩ | ⟨one, second⟩ := named
  · obtain ⟨rest, slots⟩ := List.head?_eq_some_iff.mp first
    rw [State.proposeAt_first zero slots, refused, if_neg nofun]
    rfl
  · match slots : (s.voteOf p).slots with
    | [] => rw [slots] at second; cases second
    | [_] => rw [slots] at second; cases second
    | w :: y :: rest =>
      rw [slots] at second
      cases second
      rw [State.proposeAt_second one slots, refused, if_neg nofun]
      rfl

/-- Settles O19: the refusals in the order of Table 2.2. -/
theorem proposalsAreRefused : Obligations.ProposalsAreRefused := by
  intro l tag b serial v s h operate joined
  dsimp only
  have run := exec_propose_one (tag := tag) (e := ⟨b, serial, v⟩) h operate joined
  have answers : ∀ r, s.proposeEntry l ⟨b, serial, v⟩ = (r, s) →
      exec (.propose (.lane l) tag ([1, b] ++ be16 serial ++ be16 v)) s =
        .next (s.replied (.lane l) ⟨0x10, tag, .ok, .entries [r]⟩) := by
    intro r entry
    rw [entry] at run
    exact run
  refine ⟨fun above => answers _ ?_, fun p at_ => ⟨fun disabled => answers _ ?_, fun enabled notElector => answers _ ?_,
    fun enabled elector outside => answers _ ?_, fun enabled elector domain => ?_⟩⟩
  · rw [State.proposeEntry, joined, pointOf_eq_none above]
    rfl
  · rw [State.proposeEntry, joined, pointOf_of_val at_]
    dsimp only
    rw [disabled]
    rfl
  · rw [State.proposeEntry, joined, pointOf_of_val at_]
    dsimp only
    rw [enabled, notElector]
    rfl
  · rw [State.proposeEntry, joined, pointOf_of_val at_]
    dsimp only
    rw [enabled, elector, outside]
    rfl
  · have entry := State.proposeEntry_of_allowed (e := ⟨b, serial, v⟩) joined at_ enabled elector domain
    rw [entry] at answers
    exact ⟨fun stale => answers _ (State.proposeAt_of_stale stale),
      fun two fresh => answers _ (State.proposeAt_of_ahead two fresh),
      fun one none' => answers _ (State.proposeAt_alone one none'), fun x named =>
        ⟨fun offRoll => answers _ (State.proposeAt_of_refused named (slotRefusal_of_off_roll offRoll)),
          fun onRoll has => answers _ (State.proposeAt_of_refused named (slotRefusal_of_duplicate onRoll has)),
          fun onRoll silent late => answers _ (State.proposeAt_of_refused named (slotRefusal_of_late onRoll silent late))⟩⟩

/-! ### The frame -/

theorem readPropose_isSome {payload : List Byte}
    (formed : ∃ n rest, payload = n :: rest ∧ 1 ≤ n.toNat ∧ n.toNat ≤ 16 ∧ rest.length = 5 * n.toNat) :
    ∃ es, readPropose payload = some es ∧ payload.head? = some (BitVec.ofNat 8 es.length) := by
  obtain ⟨n, rest, rfl, least, most, length⟩ := formed
  obtain ⟨es, read, count⟩ := readEntries_of_length length
  refine ⟨es, ?_, ?_⟩
  · rw [readPropose, if_neg, read]
    simp only [Config.proposeMax]
    omega
  · rw [count, BitVec.ofNat_toNat, BitVec.setWidth_eq]
    rfl

theorem readPropose_eq_none {payload : List Byte}
    (malformed : ¬ ∃ n rest, payload = n :: rest ∧ 1 ≤ n.toNat ∧ n.toNat ≤ 16 ∧ rest.length = 5 * n.toNat) :
    readPropose payload = none := by
  match payload with
  | [] => rfl
  | n :: rest =>
    refine if_pos ?_
    by_contra good
    simp only [not_or, Config.proposeMax, not_lt, ne_eq, not_not] at good
    exact malformed ⟨n, rest, rfl, Nat.one_le_iff_ne_zero.mpr good.1, good.2⟩

/-- Settles O20: the checks of the frame in their order, and the entries one at a time. -/
theorem proposeFrameChecks : Obligations.ProposeFrameChecks := by
  refine ⟨fun l tag payload s => ⟨fun h => ?_, fun h => ⟨fun malformed => ?_, fun formed config => ?_,
    fun formed operate apart => ?_, fun formed operate joined => ?_⟩⟩, fun l tag e es s h operate joined some' few => ?_⟩
  · exact exec_of_unchanged (kind := .propose) rfl nofun h rfl
  · refine exec_of_lane (kind := .propose) rfl nofun h ?_
    simp only [serveKind, servePropose, readPropose_eq_none malformed]
    rfl
  · obtain ⟨es, read, -⟩ := readPropose_isSome formed
    refine exec_of_lane (kind := .propose) rfl nofun h ?_
    simp [serveKind, servePropose, read, config, State.refuse]
  · obtain ⟨es, read, -⟩ := readPropose_isSome formed
    refine exec_of_lane (kind := .propose) rfl nofun h ?_
    simp [serveKind, servePropose, read, operate, apart, State.refuse]
  · obtain ⟨es, read, head⟩ := readPropose_isSome formed
    refine ⟨_, (s.proposeEntries l es).1, exec_propose h read operate joined,
      (s.proposeEntries_base l es).replies_replied _ _, ?_⟩
    rw [State.length_proposeEntries, head]
  · have base := s.proposeEntry_base l e
    have whole := exec_propose (tag := tag) h
      (readPropose_proposePayload (List.cons_ne_nil e es) (Nat.succ_le_succ few)) operate joined
    refine ⟨(s.proposeEntry l e).2, (s.proposeEntry l e).1, base.lu, exec_propose_one h operate joined, fun stays => ?_,
      fun left => ?_⟩
    · have h' : (s.proposeEntry l e).2.TakesAtOnce (.lane l) := by
        unfold State.TakesAtOnce
        rw [base.resetN, State.link, base.lu]
        exact h
      exact ⟨_, _, (State.proposeEntries_base _ l es).lu.trans base.lu,
        exec_propose h' (readPropose_proposePayload some' (few.trans (by decide))) (by rw [base.cu]; exact operate) stays,
        whole⟩
    · have rest := State.proposeEntries_of_apart left es
      have all : s.proposeEntries l (e :: es) = ((s.proposeEntry l e).1 :: es.map fun _ => .notMember, (s.proposeEntry l e).2) := by
        rw [State.proposeEntries, rest]
      rw [all] at whole
      exact whole

end Sys2Proof.Machine

/-! POINT_READ and the values of open proposals (R17). -/

namespace Sys2Proof.Machine

/-! ### What POINT_READ shows is not veiled -/

theorem Slot.hasProposal_veiled (x : Slot) (l : Lane) : x.veiled.hasProposal l = x.hasProposal l := by
  simp [Slot.hasProposal, Slot.veiled, Function.comp_def]

theorem Slot.report_veiled (now : Time) (x : Slot) : x.veiled.report now = x.report now := by
  have proposers : x.veiled.proposers = x.proposers := congrArg PerLane.tabulate (funext x.hasProposal_veiled)
  rw [Slot.report, proposers]
  rfl

section
variable {s : State} {link : ReqLink} {tag : Byte} {payload : List Byte}

theorem State.voteOf_veiled (s : State) (p : Fin 64) :
    s.veiled.voteOf p = { s.voteOf p with slots := (s.voteOf p).slots.map Slot.veiled } :=
  PerPoint.at_tabulate _ p

theorem State.pointReport_veiled (p : Fin 64) (s : State) : s.veiled.pointReport p = s.pointReport p := by
  have slots : (s.veiled.voteOf p).slots.map (Slot.report s.time) = (s.voteOf p).slots.map (Slot.report s.time) := by
    rw [s.voteOf_veiled]
    simp [Slot.report_veiled]
  unfold State.pointReport
  change PointReport.mk _ _ _ ((s.veiled.voteOf p).slots.map (Slot.report s.time)) _ _ _ _ _ = _
  rw [slots, s.voteOf_veiled]
  rfl

/-- The answer to POINT_READ: the state stands, and the reply is the same with the values veiled (R16, R17). -/
theorem servePointRead_veiled (payload : List Byte) (s : State) :
    ∃ result fields, servePointRead payload s = ⟨s, result, fields⟩ ∧
      servePointRead payload s.veiled = ⟨s.veiled, result, fields⟩ := by
  unfold servePointRead
  cases readPoint payload with
  | none => exact ⟨_, _, rfl, rfl⟩
  | some b =>
    dsimp only
    cases pointOf b with
    | none => exact ⟨_, _, rfl, rfl⟩
    | some p => exact ⟨_, _, rfl, by rw [← s.pointReport_veiled p]⟩

/-- POINT_READ does to the veiled state what it does to the state, veiled: on a link that is down, while four replies
are owed, and where it is taken at once. -/
theorem exec_pointRead_veiled {s' : State} (none' : (s.link link.link).waiting = [])
    (run : exec (.pointRead link tag payload) s = .next s') :
    exec (.pointRead link tag payload) s.veiled = .next s'.veiled := by
  have arrives : ∀ u : State, exec (.pointRead link tag payload) u =
      u.whenPowered (State.receive link ⟨ReqKind.code .pointRead, tag, payload⟩) := fun _ => rfl
  cases high : s.resetN with
  | low =>
    rw [arrives, State.whenPowered, if_neg (by rw [high]; nofun)] at run
    cases run
    rw [arrives, State.whenPowered, if_neg (show ¬ s.veiled.resetN = .high from high ▸ nofun)]
  | high =>
    cases up : (s.link link.link).state.up with
    | false =>
      rw [arrives, State.whenPowered, if_pos high, State.receive_of_down up] at run
      cases run
      rw [arrives, State.whenPowered, if_pos (show s.veiled.resetN = .high from high),
        State.receive_of_down (s := s.veiled) up]
    | true =>
      have room : (s.link link.link).waiting.length < 4 := by rw [none']; decide
      by_cases owed : 4 ≤ (s.link link.link).replies.length
      · rw [arrives, State.whenPowered, if_pos high, State.receive_of_owed up room owed] at run
        cases run
        rw [arrives, State.whenPowered, if_pos (show s.veiled.resetN = .high from high),
          State.receive_of_owed (s := s.veiled) up room owed]
        rfl
      · obtain ⟨result, fields, plain, veiled⟩ := servePointRead_veiled payload s
        have atOnce : s.TakesAtOnce link := ⟨high, up, none', Nat.not_le.mp owed⟩
        rw [exec_of_unchanged (kind := .pointRead) rfl nofun atOnce ((serveKind_pointRead _ _ _).trans plain)] at run
        cases run
        exact exec_of_unchanged (kind := .pointRead) rfl nofun (show s.veiled.TakesAtOnce link from atOnce)
          ((serveKind_pointRead _ _ _).trans veiled)

end

/-- Settles O41: the two states run as the one veiled state does. -/
theorem pointReadHidesProposals : Obligations.PointReadHidesProposals := by
  intro link tag payload s t s' t' none' same runS runT
  have lu : t.lu = s.lu := (congrArg State.lu same).symm
  have noneT : (t.link link.link).waiting = [] := by rw [State.link, lu]; exact none'
  have veiledS := exec_pointRead_veiled none' runS
  rw [same, exec_pointRead_veiled noneT runT] at veiledS
  exact (Host.Outcome.next.inj veiledS).symm

end Sys2Proof.Machine

/-! The closing of vote slots: what it decides, what it hands on and what it leaves (R30 to R35, R42 to R64). -/

namespace Sys2Proof.Machine

/-! ### A point's one slot, as lanes depart -/

/-- A slot without the lanes of a set: off its roll, their proposals withdrawn (R34). -/
def Slot.withoutAll (departed : Lane → Bool) (x : Slot) : Slot :=
  { x with
    roll := PerLane.tabulate fun l => x.roll.get l && !departed l
    proposals := x.proposals.filter fun q => !departed q.lane }

theorem Slot.withoutAll_none {departed : Lane → Bool} (none' : ∀ l, departed l = false) (x : Slot) :
    x.withoutAll departed = x := by
  have roll : (PerLane.tabulate fun l => x.roll.get l && !departed l) = x.roll := by
    apply PerLane.eq_of_get
    intro l
    simp [none']
  have proposals : (x.proposals.filter fun q => !departed q.lane) = x.proposals :=
    List.filter_eq_self.mpr fun q _ => by rw [none']; rfl
  rw [Slot.withoutAll, roll, proposals]

theorem Slot.withoutAll_single {departed : Lane → Bool} {l : Lane} (only : ∀ m, departed m = decide (m = l)) (x : Slot) :
    x.withoutAll departed = x.without l := by
  have roll : (PerLane.tabulate fun m => x.roll.get m && !departed m) = x.roll.remove l := by
    apply PerLane.eq_of_get
    intro m
    rw [PerLane.get_tabulate, LaneSet.get_remove, only]
    by_cases same : m = l <;> simp [same]
  have proposals : (x.proposals.filter fun q => !departed q.lane) = x.proposals.filter fun q => q.lane != l :=
    congrArg (List.filter · x.proposals) (funext fun q => by rw [only]; rfl)
  rw [Slot.withoutAll, roll, proposals]
  rfl

theorem Slot.withoutAll_withoutAll {first second both : Lane → Bool} (either : ∀ l, both l = (first l || second l))
    (x : Slot) : (x.withoutAll first).withoutAll second = x.withoutAll both := by
  have roll : (PerLane.tabulate fun l => (PerLane.tabulate fun m => x.roll.get m && !first m).get l && !second l) =
      PerLane.tabulate fun l => x.roll.get l && !both l := by
    apply PerLane.eq_of_get
    intro l
    rw [PerLane.get_tabulate, PerLane.get_tabulate, PerLane.get_tabulate, either, Bool.not_or, Bool.and_assoc]
  have proposals : ((x.proposals.filter fun q => !first q.lane).filter fun q => !second q.lane) =
      x.proposals.filter fun q => !both q.lane := by
    rw [List.filter_filter]
    exact congrArg (List.filter · x.proposals) (funext fun q => by rw [either, Bool.not_or, Bool.and_comm])
  simp only [Slot.withoutAll]
  rw [roll, proposals]

/-- The lanes that have left PROBATION and MEMBER between two states. -/
def State.departed (s t : State) (l : Lane) : Bool := (s.laneState l).joined && !(t.laneState l).joined

/-- Between `s` and `t` no lane joins, and a point of at most one slot has lost from it the lanes departed, and nothing
else of its votes (R34). -/
structure State.Withdraws (s t : State) : Prop where
  joined : ∀ l, (t.laneState l).joined = true → (s.laneState l).joined = true
  votes : ∀ p, (s.voteOf p).slots.length ≤ 1 →
    t.voteOf p = { s.voteOf p with slots := (s.voteOf p).slots.map (Slot.withoutAll (s.departed t)) }

theorem State.Withdraws.of_same {s t : State} (joined : ∀ l, (t.laneState l).joined = (s.laneState l).joined)
    (ve : t.ve = s.ve) : s.Withdraws t := by
  refine ⟨fun l => by rw [joined]; exact id, fun p _ => ?_⟩
  have kept : Slot.withoutAll (s.departed t) = id :=
    funext (Slot.withoutAll_none fun l => by rw [State.departed, joined, Bool.and_not_self])
  rw [State.voteOf_of_ve ve, kept, List.map_id]

theorem State.Withdraws.refl (s : State) : s.Withdraws s := .of_same (fun _ => rfl) rfl

theorem State.Withdraws.trans {s t u : State} (first : s.Withdraws t) (second : t.Withdraws u) : s.Withdraws u := by
  refine ⟨fun l => first.joined l ∘ second.joined l, fun p few => ?_⟩
  have either : ∀ l, s.departed u l = (s.departed t l || t.departed u l) := by
    intro l
    have before := first.joined l
    have after := second.joined l
    unfold State.departed
    revert before after
    generalize (s.laneState l).joined = a
    generalize (t.laneState l).joined = b
    generalize (u.laneState l).joined = c
    revert a b c
    decide
  have votes := first.votes p few
  have few' : (t.voteOf p).slots.length ≤ 1 := by rw [votes]; simpa using few
  have both : Slot.withoutAll (t.departed u) ∘ Slot.withoutAll (s.departed t) = Slot.withoutAll (s.departed u) :=
    funext (Slot.withoutAll_withoutAll either)
  rw [second.votes p few', votes]
  dsimp only
  rw [List.map_map, both]

section
variable (s : State) (l : Lane)

/-- A change of a lane that does not make it join. -/
theorem State.changeLane_withdrawsVotes (new : LaneState) (cause : LaneCause)
    (noJoin : new.joined = true → (s.laneState l).joined = true) : s.Withdraws (s.changeLane l new cause) := by
  obtain ⟨-, -, ve⟩ := s.changeLane_spec l new cause
  have state := fun m => s.laneState_changeLane l new cause m
  cases departs : (s.laneState l).joined && !new.joined with
  | false =>
    rw [departs, if_neg nofun] at ve
    refine .of_same (fun m => ?_) ve
    rw [state]
    split
    next same =>
      subst same
      revert noJoin departs
      generalize (s.laneState m).joined = a
      generalize new.joined = b
      revert a b
      decide
    · rfl
  | true =>
    rw [departs, if_pos rfl] at ve
    obtain ⟨was, apart⟩ := Bool.and_eq_true_iff.mp departs
    have only : ∀ m, s.departed (s.changeLane l new cause) m = decide (m = l) := by
      intro m
      rw [State.departed, state]
      split
      next same => rw [same, was, apart]; simp
      next other => simp [other]
    refine ⟨fun m joined => ?_, fun p few => ?_⟩
    · rw [state] at joined
      split at joined
      next same => rw [same, was]
      · exact joined
    · rw [State.voteOf_of_ve ve, State.voteOf_void]
      match slots : (s.voteOf p).slots with
      | [] => rfl
      | [x] => rw [List.map_singleton, Slot.withoutAll_single only]; rfl
      | _ :: _ :: _ => rw [slots] at few; simp at few

theorem State.demoteProbation_withdraws : s.Withdraws (s.demoteProbation l) := by
  unfold State.demoteProbation
  split
  · exact s.changeLane_withdrawsVotes l _ _ nofun
  · exact .refl s

theorem State.moveLane_withdrawsVotes (new : LaneState) (cause : LaneCause)
    (noJoin : new.joined = true → (s.laneState l).joined = true) : s.Withdraws (s.moveLane l new cause) := by
  have changed := s.changeLane_withdrawsVotes l new cause noJoin
  unfold State.moveLane
  dsimp only
  split
  · exact changed.trans ((State.demoteProbation_withdraws _ _).trans
      ((State.demoteProbation_withdraws _ _).trans (State.demoteProbation_withdraws _ _)))
  · exact changed

/-- A lane's counts replaced. -/
theorem State.putLane_withdraws {e : LaneEntry} (same : e.state = s.laneState l) : s.Withdraws (s.putLane l e) := by
  refine .of_same (fun m => ?_) rfl
  rw [State.laneState_putLane]
  split
  next eq => rw [same, eq]
  · rfl

theorem State.takeVerdict_withdraws (v : Option Verdict) : s.Withdraws (s.takeVerdict l v) := by
  have strike : ∀ cause, s.Withdraws (s.strike l cause) := by
    intro cause
    unfold State.strike
    dsimp only
    have put := s.putLane_withdraws l (e := { s.lane l with strikes := (s.lane l).strikes + 1, cleanRun := 0 }) rfl
    split
    · exact put.trans (State.moveLane_withdrawsVotes _ _ _ _ nofun)
    · exact put
  unfold State.takeVerdict
  split
  · exact strike _
  · exact strike _
  · rw [State.cleanVote_eq]
    refine s.putLane_withdraws l ?_
    split <;> rfl
  next _ _ probation =>
    unfold State.creditLane
    dsimp only
    split
    · have put := s.putLane_withdraws l (e := { s.lane l with credit := 0 }) rfl
      refine put.trans (State.moveLane_withdrawsVotes _ _ _ _ fun _ => ?_)
      rw [State.laneState_putLane, if_pos rfl]
      exact congrArg LaneState.joined probation
    · exact s.putLane_withdraws l rfl
  · exact s.moveLane_withdrawsVotes l _ _ nofun
  · exact .refl s

theorem State.takeVerdicts_withdraws (v : PerLane (Option Verdict)) : s.Withdraws (s.takeVerdicts v) :=
  (s.takeVerdict_withdraws _ _).trans ((State.takeVerdict_withdraws _ _ _).trans (State.takeVerdict_withdraws _ _ _))

/-- A verdict that is none or a clean vote does not reach the drive unit. -/
theorem State.takeVerdict_du {v : Option Verdict} (mild : v = none ∨ v = some .cleanVote) : (s.takeVerdict l v).du = s.du := by
  obtain rfl | rfl := mild
  · unfold State.takeVerdict
    cases s.laneState l <;> rfl
  · unfold State.takeVerdict
    cases s.laneState l with
    | member =>
      change (s.cleanVote l).du = s.du
      rw [State.cleanVote_eq]
      rfl
    | absent => rfl
    | down => rfl
    | probation => rfl
    | excluded => rfl

theorem State.takeVerdicts_du {v : PerLane (Option Verdict)} (mild : ∀ l, v.get l = none ∨ v.get l = some .cleanVote) :
    (s.takeVerdicts v).du = s.du := by
  have c := State.takeVerdict_du ((s.takeVerdict .a v.a).takeVerdict .b v.b) .c (mild .c)
  have b := State.takeVerdict_du (s.takeVerdict .a v.a) .b (mild .b)
  exact c.trans (b.trans (s.takeVerdict_du .a (mild .a)))

end

end Sys2Proof.Machine

/-! The closing of a slot in the words of the statements (R30, R42 to R64). -/

namespace Sys2Proof.Machine

section
variable (p : Fin 64) (x : Slot) (cause : CloseCause) (s : State)

/-! ### What a closing decides -/

theorem State.get_lanes_closingInput (l : Lane) : (s.closingInput p x cause).lanes.get l = s.laneState l :=
  PerLane.get_map _ _ l

theorem State.counted_closingInput :
    (s.closingInput p x cause).counted = x.proposals.filter fun q => s.laneState q.lane == .member := by
  unfold ClosingInput.counted
  simp only [State.get_lanes_closingInput]
  rfl

theorem State.heard_closingInput :
    (s.closingInput p x cause).heard = x.proposals.filter fun q => (s.laneState q.lane).joined := by
  unfold ClosingInput.heard
  simp only [State.get_lanes_closingInput]
  rfl

end

section
variable {i : ClosingInput} {decided : Option Value} {l : Lane}

theorem Slot.valueOf_eq_none_iff {x : Slot} : x.valueOf l = none ↔ x.hasProposal l = false := by
  simp [Slot.valueOf, Slot.hasProposal]

theorem countedVerdict_ne_missed (cfg : PointCfg) (counted : List Proposal) (v : Value) :
    countedVerdict cfg counted v ≠ some .strikeMissed := by
  unfold countedVerdict
  split
  · split
    · split <;> nofun
    · nofun
  · split
    · split <;> nofun
    · nofun

theorem observerVerdict_ne_missed (cfg : PointCfg) (decided : Option Value) (v : Value) :
    observerVerdict cfg decided v ≠ some .strikeMissed := by
  cases decided with
  | none => nofun
  | some d =>
    change some (if agree cfg v d = true then Verdict.probationCredit else .probationFailure) ≠ _
    split <;> nofun

/-- A missed lane is a MEMBER on the roll without a proposal, where the window ran out (R48). -/
theorem laneVerdict_eq_missed_iff : laneVerdict i decided l = some .strikeMissed ↔
    i.cause = .expired ∧ i.slot.roll.get l = true ∧ i.lanes.get l = .member ∧ i.slot.hasProposal l = false := by
  rw [← Slot.valueOf_eq_none_iff]
  cases state : i.lanes.get l with
  | member =>
    rw [laneVerdict_of_member state]
    cases i.slot.valueOf l with
    | none => simp
    | some v => simp [countedVerdict_ne_missed]
  | probation =>
    rw [laneVerdict_of_probation state]
    cases i.slot.valueOf l with
    | none => simp
    | some v => simp [observerVerdict_ne_missed]
  | absent => rw [laneVerdict_of_apart (by rw [state]; rfl)]; simp
  | down => rw [laneVerdict_of_apart (by rw [state]; rfl)]; simp
  | excluded => rw [laneVerdict_of_apart (by rw [state]; rfl)]; simp

/-- An OUTCOME record is made but for UNANIMOUS and AGREED without an adverse verdict (R63). -/
theorem recordsOutcome_eq_false_iff {outcome : VoteOutcome} {verdict : Lane → Option Verdict} :
    recordsOutcome outcome (PerLane.tabulate verdict) = false ↔
      (outcome = .unanimous ∨ outcome = .agreed) ∧
        ∀ l, verdict l ≠ some .strikeMiscompare ∧ verdict l ≠ some .strikeMissed ∧ verdict l ≠ some .probationFailure := by
  have mild : ∀ v : Option Verdict, (!v.any Verdict.adverse) = true ↔
      v ≠ some .strikeMiscompare ∧ v ≠ some .strikeMissed ∧ v ≠ some .probationFailure := by
    intro v
    cases v with
    | none => simp
    | some v => cases v <;> decide
  have all : (Lane.all.all fun l => !((PerLane.tabulate verdict).get l).any Verdict.adverse) = true ↔
      ∀ l, verdict l ≠ some .strikeMiscompare ∧ verdict l ≠ some .strikeMissed ∧ verdict l ≠ some .probationFailure := by
    simp only [List.all_eq_true, PerLane.get_tabulate, mild]
    exact ⟨fun h l => h l (by cases l <;> decide), fun h l _ => h l⟩
  rw [recordsOutcome, Bool.not_eq_false', Bool.and_eq_true, all]
  simp

theorem outcomeSubject_eq (entries : List Mention) :
    outcomeSubject entries =
      ((entries.filter fun e => e.mark == .dissent || e.mark == .missed || e.mark == .observerFail).map
        Mention.lane).head? := by
  rw [outcomeSubject, List.head?_map, List.head?_filter]

theorem State.handOptional_eq (p : Fin 64) (v : Option Value) (s : State) :
    s.handOptional p v = { s with du := match v with | none => s.du | some v => s.du.handOff s.global.echoRetries p v } := by
  cases v <;> rfl

end

/-! ### The closing itself -/

section
variable (p : Fin 64) (x : Slot) (cause : CloseCause) (rest : List Slot) (s : State)

/-- The lane entries of a closing: the heard proposals in arrival order, then the missed lanes (R61). -/
theorem laneEntries_closingInput (decided : Option Value) :
    laneEntries (s.closingInput p x cause)
        (PerLane.tabulate (laneVerdict (s.closingInput p x cause) decided)) =
      (x.proposals.filter fun q => (s.laneState q.lane).joined).map
          (fun q => ⟨q.lane, some q.value, markOf (laneVerdict (s.closingInput p x cause) decided q.lane)⟩) ++
        ([Lane.a, .b, .c].filter fun l =>
          cause == .expired && x.roll.get l && s.laneState l == .member && !x.hasProposal l).map
            fun l => ⟨l, none, .missed⟩ := by
  have missed : ∀ l, (laneVerdict (s.closingInput p x cause) decided l == some .strikeMissed) =
      (cause == .expired && x.roll.get l && s.laneState l == .member && !x.hasProposal l) := by
    intro l
    have iff := laneVerdict_eq_missed_iff (i := s.closingInput p x cause) (decided := decided) (l := l)
    rw [State.get_lanes_closingInput] at iff
    rw [Bool.eq_iff_iff, beq_iff_eq, iff]
    simp [State.closingInput, and_assoc]
  unfold laneEntries
  simp only [PerLane.get_tabulate, State.heard_closingInput, missed]
  rfl

theorem handedValue_eq (cfg : PointCfg) (decided : Option Value) (safe : Bool) :
    handedValue cfg decided safe =
      if safe = true then none
      else match decided with
        | some v => some v
        | none => if cfg.fallback = .safe then some cfg.safe else none := by
  cases safe <;> cases decided <;> simp [handedValue]

/-- What the closing of a slot decides in a state, and the report of it (R42, R62, R63). -/
def State.closingDecision (s : State) : Decision := decideClosing (s.closingInput p x cause)

def State.closingOutcome (s : State) : OutcomeReport := closingReport p x cause (s.closingDecision p x cause)

/-- Steps 1 to 4 of a closing without the record: N advances, the value is handed on, the notice made (R30, R64). -/
def State.closingTold (s : State) : State :=
  let d := s.closingDecision p x cause
  ({ s.putVote p ⟨(s.voteOf p).next + 1, rest, some ⟨x.serial, cause, d.outcome, d.decided, d.withheld, s.time⟩⟩ with
    du := match d.handed with | none => s.du | some v => s.du.handOff s.global.echoRetries p v }).notify
    (s.cfgOf p).notify (.outcome (s.closingOutcome p x cause))

theorem State.closeSlot_eq :
    s.closeSlot p x rest cause =
      State.takeVerdicts (s.closingDecision p x cause).verdicts
        ((s.closingTold p x cause rest).submitOutcome (s.closingDecision p x cause) (s.closingOutcome p x cause)) := by
  unfold State.closeSlot
  dsimp only
  rw [State.handOptional_eq]
  rfl

/-- The votes and the drive unit behind the record are those before it. -/
theorem State.submitOutcome_keeps (d : Decision) (r : OutcomeReport) :
    (s.submitOutcome d r).ve = s.ve ∧ (s.submitOutcome d r).lm = s.lm ∧ (s.submitOutcome d r).du = s.du := by
  unfold State.submitOutcome
  split
  · exact ⟨by simp, by simp, by simp⟩
  · exact ⟨rfl, rfl, rfl⟩

/-- A closing tells of itself and, unless exempt, makes its record; then the lanes take the verdicts (R60, R63, R64). -/
theorem State.closeSlot_tells {reported : State} {subject : Option Lane} {report : OutcomeReport} {exempt : Prop}
    (told : s.closingTold p x cause rest = reported)
    (reports : s.closingOutcome p x cause = report)
    (names : (s.closingDecision p x cause).subject = subject)
    (skips : (s.closingDecision p x cause).recorded = false ↔ exempt) :
    ∃ told, (exempt → told = reported) ∧ (¬ exempt → told = reported.submit subject (.outcome report)) ∧
      s.closeSlot p x rest cause = told.takeVerdicts (s.closingDecision p x cause).verdicts := by
  refine ⟨_, fun ex => ?_, fun noted => ?_, s.closeSlot_eq p x cause rest⟩
  · rw [State.submitOutcome, if_neg (by rw [skips.mpr ex]; nofun), told]
  · have recorded : (s.closingDecision p x cause).recorded = true :=
      (Bool.not_eq_false _).mp fun off => noted (skips.mp off)
    rw [State.submitOutcome, if_pos recorded, told, reports, names]

theorem State.closingTold_keeps :
    (s.closingTold p x cause rest).voteOf p =
      ⟨(s.voteOf p).next + 1, rest, some ⟨x.serial, cause, (s.closingDecision p x cause).outcome,
        (s.closingDecision p x cause).decided, (s.closingDecision p x cause).withheld, s.time⟩⟩ ∧
    (s.closingTold p x cause rest).lm = s.lm ∧
    (s.closingTold p x cause rest).du =
      match (s.closingDecision p x cause).handed with
      | none => s.du
      | some v => s.du.handOff s.global.echoRetries p v := by
  refine ⟨?_, ?_, ?_⟩
  · rw [State.closingTold, State.voteOf_of_ve (State.notify_ve _ _ _)]
    exact s.voteOf_putVote_self p _
  · exact State.notify_lm _ _ _
  · exact State.notify_du _ _ _

/-- What a closing leaves of the point's votes: N advanced, the closing recorded, and of a slot for N+1 what the lanes
departed by the verdicts leave (R30, R34). -/
theorem State.voteOf_closeSlot (few : rest.length ≤ 1) :
    (s.closeSlot p x rest cause).voteOf p =
      ⟨(s.voteOf p).next + 1, rest.map (Slot.withoutAll (s.departed (s.closeSlot p x rest cause))),
        some ⟨x.serial, cause, (s.closingDecision p x cause).outcome,
          (s.closingDecision p x cause).decided, (s.closingDecision p x cause).withheld, s.time⟩⟩ := by
  obtain ⟨votes, lm, -⟩ := s.closingTold_keeps p x cause rest
  obtain ⟨ve, lm', -⟩ := (s.closingTold p x cause rest).submitOutcome_keeps
    (s.closingDecision p x cause) (s.closingOutcome p x cause)
  have withdraws := State.takeVerdicts_withdraws ((s.closingTold p x cause rest).submitOutcome
    (s.closingDecision p x cause) (s.closingOutcome p x cause)) (s.closingDecision p x cause).verdicts
  rw [← s.closeSlot_eq] at withdraws
  have after := withdraws.votes p (by rw [State.voteOf_of_ve ve, votes]; exact few)
  have same : State.departed ((s.closingTold p x cause rest).submitOutcome (s.closingDecision p x cause)
      (s.closingOutcome p x cause)) (s.closeSlot p x rest cause) =
        s.departed (s.closeSlot p x rest cause) :=
    funext fun l => by rw [State.departed, State.departed, State.laneState_of_lm (lm'.trans lm)]
  rw [after, same, State.voteOf_of_ve ve, votes]

theorem State.closeSlot_du
    (mild : ∀ l, (s.closingDecision p x cause).verdicts.get l = none ∨
      (s.closingDecision p x cause).verdicts.get l = some .cleanVote) :
    (s.closeSlot p x rest cause).du =
      match (s.closingDecision p x cause).handed with
      | none => s.du
      | some v => s.du.handOff s.global.echoRetries p v := by
  obtain ⟨-, -, du⟩ := s.closingTold_keeps p x cause rest
  obtain ⟨-, -, du'⟩ := (s.closingTold p x cause rest).submitOutcome_keeps
    (s.closingDecision p x cause) (s.closingOutcome p x cause)
  rw [s.closeSlot_eq, State.takeVerdicts_du _ mild, du', du]

theorem State.closeSlot_hasClosed : s.HasClosed p x cause rest (s.closeSlot p x rest cause) := by
  have counted := s.counted_closingInput p x cause
  have entries := laneEntries_closingInput p x cause s
  have handed : (s.closingDecision p x cause).handed = _ := handedValue_eq _ _ _
  unfold State.HasClosed
  dsimp only
  rw [← counted]
  refine ⟨s.closeSlot_tells p x cause rest ?_ ?_ ?_ ?_, fun few => s.voteOf_closeSlot p x cause rest few, fun mild => ?_⟩
  · rw [State.closingTold]
    dsimp only
    rw [handed]
    exact congrArg (fun es => State.notify _ (.outcome ⟨p, x.serial, cause, _, _, _, es⟩) _) (entries _)
  · exact congrArg (OutcomeReport.mk p x.serial cause _ _ _) (entries _)
  · refine (outcomeSubject_eq _).trans ?_
    exact congrArg (fun es : List Mention => ((es.filter fun e => e.mark == .dissent || e.mark == .missed ||
      e.mark == .observerFail).map Mention.lane).head?) (entries _)
  · exact recordsOutcome_eq_false_iff
  · have same : ∀ l, (s.closingDecision p x cause).verdicts.get l = _ := fun l => PerLane.get_tabulate _ l
    have du := s.closeSlot_du p x cause rest (fun l => by rw [same]; exact mild l)
    rw [handed] at du
    exact du

end

end Sys2Proof.Machine

/-! The closing of the slot for N and of the successor that closes with it (R23, R28, R30 to R32, R35). -/

namespace Sys2Proof.Machine

section
variable {p : Fin 64} {x : Slot} {rest : List Slot} {s : State}

/-- A closing does not look at the slots, which it replaces. -/
theorem State.closeSlot_putSlots (xs : List Slot) (cause : CloseCause) :
    (s.putSlots p xs).closeSlot p x rest cause = s.closeSlot p x rest cause := by
  have next : ((s.putSlots p xs).voteOf p).next = (s.voteOf p).next := by
    rw [State.putSlots, State.voteOf_putVote_self]
  have put : ∀ v, (s.putSlots p xs).putVote p v = s.putVote p v := fun v =>
    congrArg (fun ve => { s with ve := ve }) (PerPoint.put_put s.ve p _ v)
  unfold State.closeSlot
  dsimp only
  rw [next, put]
  rfl

theorem State.putSlots_of_same {xs : List Slot} (same : (s.voteOf p).slots = xs) : s.putSlots p xs = s := by
  rw [State.putSlots, ← same]
  exact congrArg (fun ve => { s with ve := ve }) (PerPoint.put_at s.ve p)

theorem State.slots_putSlots (xs : List Slot) : ((s.putSlots p xs).voteOf p).slots = xs := by
  rw [State.putSlots, State.voteOf_putVote_self]

/-! ### The chain of closings -/

theorem State.closeChain_zero (cause : CloseCause) : s.closeChain 0 p cause = s := rfl

/-- One closing of the chain; the next follows where the slot that is then for N is due (Table 2.6). -/
theorem State.closeChain_succ (n : Nat) (cause : CloseCause) (slots : (s.voteOf p).slots = x :: rest) :
    s.closeChain (n + 1) p cause =
      (((s.closeSlot p x rest cause).voteOf p).slots.head?.bind Slot.dueCause).elim (s.closeSlot p x rest cause)
        fun c => (s.closeSlot p x rest cause).closeChain n p c := by
  rw [State.closeChain, slots]
  dsimp only
  cases ((s.closeSlot p x rest cause).voteOf p).slots.head?.bind Slot.dueCause <;> rfl

/-- The last slot of a point closes alone. -/
theorem State.closeChain_one (cause : CloseCause) (slots : (s.voteOf p).slots = [x]) :
    s.closeChain 1 p cause = s.closeSlot p x [] cause := by
  rw [State.closeChain_succ 0 cause slots]
  cases ((s.closeSlot p x [] cause).voteOf p).slots.head?.bind Slot.dueCause <;> rfl

theorem Slot.dueCause_of_ripe {cause : CloseCause} (ripe : x.state = .ripe cause) : x.dueCause = some cause := by
  rw [Slot.dueCause, ripe]

theorem Slot.dueCause_of_opened (opened : x.state = .opened) :
    x.dueCause = if x.complete = true then some .complete else none := by
  rw [Slot.dueCause, opened]

theorem State.closePoint_alone (cause : CloseCause) : (s.putSlots p [x]).closePoint p cause = s.closeSlot p x [] cause := by
  rw [State.closePoint, State.slots_putSlots]
  exact (State.closeChain_one cause (State.slots_putSlots _)).trans (State.closeSlot_putSlots _ _)

/-- The closing of a point's slot for N, and what follows of its other slot (R31). -/
theorem State.closePoint_hasClosedOn (few : rest.length ≤ 1) (cause : CloseCause) :
    s.HasClosedOn p x cause rest ((s.putSlots p (x :: rest)).closePoint p cause) := by
  have slots := s.slots_putSlots (p := p) (x :: rest)
  have left : ((s.closeSlot p x rest cause).voteOf p).slots = _ := congrArg VotePart.slots (s.voteOf_closeSlot p x cause rest few)
  refine ⟨s.closeSlot p x rest cause, s.closeSlot_hasClosed p x cause rest, fun none' => ?_, fun y one => ?_⟩
  · have closed := State.closeChain_succ rest.length cause slots
    rw [State.closeSlot_putSlots, none'] at closed
    rw [State.closePoint, slots]
    exact closed
  · have length : rest.length = 1 := by simpa [left] using congrArg List.length one
    have closed := State.closeChain_succ 1 cause slots
    rw [State.closeSlot_putSlots, one] at closed
    change _ = y.dueCause.elim _ _ at closed
    have chain : (s.putSlots p (x :: rest)).closePoint p cause = (s.putSlots p (x :: rest)).closeChain 2 p cause := by
      rw [State.closePoint, slots, List.length_cons, length]
    rw [chain, closed]
    have follows : ∀ c, (s.closeSlot p x rest cause).HasClosed p y c []
        ((s.closeSlot p x rest cause).closeChain 1 p c) := fun c => by
      rw [State.closeChain_one c one]
      exact State.closeSlot_hasClosed p y c [] _
    refine ⟨fun c ripe => ?_, fun opened complete => ?_, fun opened incomplete => ?_⟩
    · rw [Slot.dueCause_of_ripe ripe]
      exact follows c
    · rw [Slot.dueCause_of_opened opened, if_pos complete]
      exact follows _
    · rw [Slot.dueCause_of_opened opened, if_neg (by rw [incomplete]; nofun)]
      rfl

/-- The slot for N stored complete. -/
theorem State.settleFirst_of_complete (complete : x.complete = true) :
    s.settleFirst p x rest = (s.putSlots p (x :: rest)).closePoint p .complete :=
  if_pos complete

end

/-! ### The expiry of a window -/

section
variable {p : Fin 64} {x y : Slot} {rest : List Slot} {s : State}

theorem exec_windowExpiry (high : s.resetN = .high) (serial : Serial) :
    exec (.windowExpiry p serial) s = .next (s.expireWindow p serial) :=
  congrArg Host.Outcome.next (if_pos high)

theorem exec_departureClosing (high : s.resetN = .high) : exec (.departureClosing p) s = .next (s.closeDeparted p) :=
  congrArg Host.Outcome.next (if_pos high)

/-- The window of the slot for N runs out (R28, R30). -/
theorem State.expireWindow_first (slots : (s.voteOf p).slots = x :: rest) (opened : x.state = .opened)
    (due : timeReached s.time x.deadline = true) :
    s.expireWindow p x.serial = (s.putSlots p (x :: rest)).closePoint p .expired := by
  rw [State.putSlots_of_same slots, State.expireWindow, slots]
  dsimp only
  rw [if_pos rfl, if_pos ⟨due, opened⟩]

/-- The window of a slot for N+1 runs out (R28). -/
theorem State.expireWindow_second (slots : (s.voteOf p).slots = [x, y]) (other : x.serial ≠ y.serial) :
    s.expireWindow p y.serial =
      s.putSlots p [x, if timeReached s.time y.deadline = true ∧ y.state = .opened then
        { y with state := .ripe .expired } else y] := by
  rw [State.expireWindow, slots]
  dsimp only
  rw [if_neg other]
  simp [State.putSlots]

theorem State.closeDeparted_first (slots : (s.voteOf p).slots = x :: rest) (opened : x.state = .opened)
    (complete : x.complete = true) :
    s.closeDeparted p = (s.putSlots p (x :: rest)).closePoint p .complete := by
  rw [State.putSlots_of_same slots, State.closeDeparted, slots]
  exact if_pos ⟨opened, complete⟩

end

/-- Settles O21: by each of the four ways the slot for N closes. -/
theorem closingOfTheSlotForNext : Obligations.ClosingOfTheSlotForNext := by
  intro p s high
  refine ⟨fun l tag v h operate joined enabled elector domain => ?_, fun x rest slots few opened => ⟨fun due => ?_,
    fun complete => ?_⟩⟩
  · dsimp only
    obtain ⟨e, entry⟩ : ∃ e : ProposeEntry, e = ⟨BitVec.ofNat 8 p.val, (s.voteOf p).next, v⟩ := ⟨_, rfl⟩
    have run := exec_propose_one (tag := tag) (e := e) h operate joined
    rw [State.proposeEntry_of_allowed (p := p) joined (by rw [entry]; exact toNat_ofNat_point p) enabled elector
      (by rw [entry]; exact domain)] at run
    have zero : (e.serial - (s.voteOf p).next).toNat = 0 := by rw [entry]; exact serialDistance_eq_zero_iff.mpr rfl
    have base := s.proposeAt_base p l e
    refine ⟨fun none' complete => ?_, fun x rest slots few here opened onRoll silent complete => ?_⟩
    · have closes := State.settleFirst_of_complete (s := s) (p := p) (rest := [])
        (x := newSlot s.time (s.cfgOf p) s.joined l ⟨BitVec.ofNat 8 p.val, (s.voteOf p).next, v⟩) complete
      rw [State.proposeAt_opens zero none', entry, closes, State.closePoint_alone] at run base
      exact ⟨_, run, s.closeSlot_hasClosed p _ _ _, base.lu⟩
    · have accepted := slotRefusal_of_open opened onRoll silent
      have closes := State.settleFirst_of_complete (s := s) (p := p) (rest := rest) (x := x.store l v) complete
      rw [State.proposeAt_first zero slots, accepted, if_pos rfl, entry, closes] at run base
      exact ⟨_, run, State.closePoint_hasClosedOn few _, base.lu⟩
  · refine ⟨_, exec_windowExpiry high _, ?_⟩
    rw [State.expireWindow_first slots opened due]
    exact State.closePoint_hasClosedOn few _
  · refine ⟨_, exec_departureClosing high, ?_⟩
    rw [State.closeDeparted_first slots opened complete]
    exact State.closePoint_hasClosedOn few _

/-- Settles O22: the slot for N+1 ripens by its own window; RIPE, it closes behind the slot for N. -/
theorem successorRipensAndFollows : Obligations.SuccessorRipensAndFollows := by
  intro p x y s high slots other
  refine ⟨fun opened due => ?_, fun ripe => ?_, fun cause ripe opened due => ?_⟩
  · rw [exec_windowExpiry high, State.expireWindow_second slots other, if_pos ⟨due, opened⟩]
    rfl
  · rw [exec_windowExpiry high, State.expireWindow_second slots other, if_neg fun both => ripe both.2,
      State.putSlots_of_same slots]
  · obtain ⟨u, ⟨-, left, -⟩, -, follows⟩ :=
      State.closePoint_hasClosedOn (s := s) (p := p) (x := x) (rest := [y]) le_rfl .expired
    have first := left le_rfl
    obtain ⟨closes, -, -⟩ := follows _ (congrArg VotePart.slots first)
    obtain ⟨-, empties, -⟩ := closes cause ripe
    have second := empties (Nat.zero_le 1)
    refine ⟨_, exec_windowExpiry high _, ?_⟩
    rw [State.expireWindow_first slots opened due, second, first]
    exact ⟨rfl, rfl, rfl⟩

end Sys2Proof.Machine
